-- ==== Sys2Proof/Word.lean ====
section
/-! DEFINITION. The word types of the block (spec/00_scope.md R5, R7): every value is unsigned and
bit 0 is its least significant bit. Only types stand here; every operation on them that a test
could show wrong stands in Decode.lean or under Machine/. -/

namespace Sys2Proof

/-- A byte of a Frame, a received byte, a check byte or the cursor (R5: byte size 8 bits). -/
abbrev Byte := BitVec 8

/-- `DATA_W = 24` (R5): "a 24-bit unsigned value, the logical payload to transfer" (R21). -/
abbrev DataWord := BitVec 24

/-- An operand word of `PACK12` (R74). -/
abbrev Word16 := BitVec 16

/-- The 32-bit operand field of a record (R75), a Frame image (R70), the CRC working value (R93). -/
abbrev Word32 := BitVec 32

/-- The 4-bit step code of a record (R75), phase code (R77) or driver command code (R78). -/
abbrev Nibble := BitVec 4

/-- A 36-bit stimulus record (R75) or driver command record (R78). -/
abbrev Record := BitVec 36

end Sys2Proof
end

