-- ==== Sys2Proof/Config.lean ====
section
/-! DEFINITION. The parameters of spec/00_scope.md R5 and R6 and of spec/92_eei_decisions.md
("Parameters a model takes as arguments"). The OPEN ones are opaque constants without a body: no
proof can see a value of theirs, so a statement about the machine holds for every value. -/

namespace Sys2Proof

/-- The four named instances of the OPEN parameter `CURSOR_POLICY` (R134, D10). -/
inductive CursorPolicy where
  | hold
  | incOnMatch
  | incOnValidate
  | incOnRxev
  deriving DecidableEq, Repr

/-- The two readings of `VerifyCrc` that R98 and R100 name (D17). -/
inductive VerifyPolicy where
  | literal
  | equality
  deriving DecidableEq, Repr

namespace Config

/-- OPEN (D10): the cursor update ML.CMP applies, `curV(c, match)` of R134. Arbitrary. -/
opaque curV : Byte → Bool → Byte

/-- OPEN (D10): the cursor update RXEV applies, `curR(c)` of R134. Arbitrary. -/
opaque curR : Byte → Byte

/-- OPEN (D11): `CURSOR_INIT`, the reset value of `expectedCursor`. Any 8-bit value. -/
opaque cursorInit : Byte

/-- OPEN (D12): one less than `ERRCNT_W`, so that the width is any integer from 1 on. -/
opaque errcntWLessOne : Nat

/-- `ERRCNT_W`, the width of `errorCount`: OPEN, any integer >= 1 (R6, R25, D12). -/
def errcntW : Nat := errcntWLessOne + 1

/-- `CRC_POLY_LITERAL = 0x83` (R5, R90), in the width of the working value. -/
def crcPolyLiteral : Word32 := 0x83#32

/-- The stated polynomial with its leading term, `0x183` (R92); not the block's constant. -/
def crcPolyLeading : Word32 := 0x183#32

/-- `CRC_LOOP_HIGH = 23` (R5). -/
def crcLoopHigh : Nat := 23

/-- `CRC_LOOP_LOW`, decided 1: "skip i=0" (R5, R96, D16). -/
def crcLoopLow : Nat := 1

/-- `VERIFY_POLICY`, decided `LITERAL` (R100, D17). -/
def verifyPolicy : VerifyPolicy := .literal

end Config

end Sys2Proof
end

