-- ==== Sys2Proof/Syntax.lean ====
section
/-! DEFINITION. The syntax of the block: one constructor of `Instr` per row of
spec/opcode_table.json. Nine are stimulus records (spec/30_encoding.md R76), nine are
micro-operations of the main loop (R77), eight are driver commands (R78). -/

namespace Sys2Proof

/-- The operations of the block. An operand is a field of the row's encoding; `mlBuild` carries the
DataWord that the `ML` record of its step presents (R122), `recv` the count of its payload (R162). -/
inductive Instr where
  /-- `CRC8 data` (R90). -/
  | crc8 (data : DataWord)
  /-- `CRCCHK data, crc` (R98). -/
  | crcchk (data : DataWord) (crc : Byte)
  /-- `FRAME data` (R110). -/
  | frame (data : DataWord)
  /-- `ML data` (R121). -/
  | ml (data : DataWord)
  /-- `TXEV` (R131). -/
  | txev
  /-- `RXEV rx0, rx1` (R132). -/
  | rxev (rx0 rx1 : Byte)
  /-- `HALT` (R133). -/
  | halt
  /-- `PACK12 a, b` (R74). -/
  | pack12 (a b : Word16)
  /-- `RESET` (R211). -/
  | reset
  /-- `ML.BUILD data` (R122). -/
  | mlBuild (data : DataWord)
  /-- `ML.ARMTEST` (R123). -/
  | mlArmtest
  /-- `ML.ARM` (R124). -/
  | mlArm
  /-- `ML.RXTEST` (R125). -/
  | mlRxtest
  /-- `ML.RXCLR` (R126). -/
  | mlRxclr
  /-- `ML.CMP` (R127). -/
  | mlCmp
  /-- `ML.ERRINC` (R128). -/
  | mlErrinc
  /-- `ML.TXRDY` (R129). -/
  | mlTxrdy
  /-- `ML.RXDIS` (R130). -/
  | mlRxdis
  /-- `SEND b0, b1, b2, b3` (R161). -/
  | send (b0 b1 b2 b3 : Byte)
  /-- `RECV count` (R162). -/
  | recv (count : Word32)
  /-- `ARMTX` (R163). -/
  | armtx
  /-- `DISTX` (R164). -/
  | distx
  /-- `ARMRX` (R165). -/
  | armrx
  /-- `DISRX` (R166). -/
  | disrx
  /-- `ACKTX` (R167). -/
  | acktx
  /-- `ACKRX` (R168). -/
  | ackrx
  deriving DecidableEq, Repr

/-- One entry of `drvTrace`: a driver command the core issued, with its payload (R36, R160). -/
inductive DrvCmd where
  | send (b0 b1 b2 b3 : Byte)
  | recv (count : Word32)
  | armtx
  | distx
  | armrx
  | disrx
  | acktx
  | ackrx
  deriving DecidableEq, Repr

/-- The nine micro-operations of the main loop, as `mlPhase` names them (R31, R77). -/
inductive Phase where
  | build
  | armtest
  | arm
  | rxtest
  | rxclr
  | cmp
  | errinc
  | txrdy
  | rxdis
  deriving DecidableEq, Repr

/-- The five operand forms of a stimulus record (R75). -/
inductive Form where
  | d
  | f
  | r
  | p
  | n
  deriving DecidableEq, Repr

/-- An encoding in one of the three code spaces the spec defines (R75, R77, R78). -/
inductive Encoding where
  /-- A stimulus record. -/
  | record (r : Record)
  /-- A micro-operation: the code `mlPhase` holds and the `ML` record that is presented (R77, R82). -/
  | phase (code : Nibble) (r : Record)
  /-- A driver command record. -/
  | command (c : Record)
  deriving DecidableEq, Repr

/-- Why an encoding is reserved (R79, R80). -/
inductive Reject where
  /-- A step code with no row in R76: 0x0, 0x9 to 0xE (R80 a). -/
  | reservedStepCode (ev : Nibble)
  /-- A must-be-0 field of the record's form is not 0 (R75, R80 a). -/
  | mustBeZero (form : Form) (opnd : Word32)
  /-- A phase code 9 to 15 (R80 b). -/
  | reservedPhase (code : Nibble)
  /-- A micro-operation is performed by an `ML` record only (R77). -/
  | notAnMlRecord (r : Record)
  /-- A driver command code with no row in R78: 0x0, 0x9 to 0xF (R80 c). -/
  | reservedCommand (dcmd : Nibble)
  /-- A payload other than the one R78 fixes for the command. -/
  | reservedPayload (dcmd : Nibble) (payload : Word32)
  deriving DecidableEq, Repr

end Sys2Proof
end

