-- ==== Sys2Proof/WellFormed.lean ====
section
/-! DEFINITION. Which terms of `Instr` the spec's encodings can express. Every operand has the exact
width of its field, so one check is left: the count of `RECV`. -/

namespace Sys2Proof

/-- The count of `RECV` is 2: "the core always passes 2" (R162), the payload "always 2" (R78). -/
def Instr.recvCountOk : Instr → Bool
  | .recv count => count == 2#32
  | _ => true

/-- An instruction that some encoding of spec/opcode_table.json stands for. -/
abbrev Instr.WellFormed (i : Instr) : Prop := i.recvCountOk = true

end Sys2Proof
end

