-- ==== Sys2Proof/Decode.lean ====
section
/-! DEFINITION. Decoding and encoding (spec/30_encoding.md R75 to R80). The decoder is total on every
encoding and rejects a reserved one by name; the encoder is written from the same tables. -/

namespace Sys2Proof

/-! ### Fields of a record -/

/-- `ev = rec[35:32]` (R75), `dcmd = cmd[35:32]` (R78). -/
def recordCode (r : Record) : Nibble := r.extractLsb' 32 4

/-- `opnd = rec[31:0]` (R75), `payload = cmd[31:0]` (R78). -/
def recordOpnd (r : Record) : Word32 := r.extractLsb' 0 32

/-- `rec = ev ++ opnd` (R75, R78). -/
def makeRecord (code : Nibble) (opnd : Word32) : Record := code ++ opnd

/-- The `data` field of forms D and F, `opnd[31:8]` (R75). -/
def opndData (opnd : Word32) : DataWord := opnd.extractLsb' 8 24

/-- Byte `k` of an operand field, byte 0 the least significant (R75, R78). -/
def opndByte (k : Nat) (opnd : Word32) : Byte := opnd.extractLsb' (8 * k) 8

/-- Form D (R75): `data` in bits 31:8, bits 7:0 must be 0. -/
def decodeFormD (mk : DataWord → Instr) (opnd : Word32) : Except Reject Instr :=
  if opndByte 0 opnd = 0#8 then .ok (mk (opndData opnd)) else .error (.mustBeZero .d opnd)

/-- Form F (R75): `data` in bits 31:8, `crc` in bits 7:0. -/
def decodeFormF (mk : DataWord → Byte → Instr) (opnd : Word32) : Except Reject Instr :=
  .ok (mk (opndData opnd) (opndByte 0 opnd))

/-- Form R (R75): bits 31:16 must be 0, `rx0` in bits 15:8, `rx1` in bits 7:0. -/
def decodeFormR (mk : Byte → Byte → Instr) (opnd : Word32) : Except Reject Instr :=
  if opnd.extractLsb' 16 16 = 0#16 then .ok (mk (opndByte 1 opnd) (opndByte 0 opnd))
  else .error (.mustBeZero .r opnd)

/-- Form P (R75): `a` in bits 31:16, `b` in bits 15:0. -/
def decodeFormP (mk : Word16 → Word16 → Instr) (opnd : Word32) : Except Reject Instr :=
  .ok (mk (opnd.extractLsb' 16 16) (opnd.extractLsb' 0 16))

/-- Form N (R75): the whole operand field must be 0. -/
def decodeFormN (i : Instr) (opnd : Word32) : Except Reject Instr :=
  if opnd = 0#32 then .ok i else .error (.mustBeZero .n opnd)

/-- Decoding a stimulus record: "read `ev`; look up its form in rule R76; check the must-be-0 fields
of the form" (R79); a reserved record is rejected (R80 a). -/
def decodeRecord (r : Record) : Except Reject Instr :=
  match recordCode r with
  | 0x1#4 => decodeFormD .crc8 (recordOpnd r)
  | 0x2#4 => decodeFormF .crcchk (recordOpnd r)
  | 0x3#4 => decodeFormD .frame (recordOpnd r)
  | 0x4#4 => decodeFormD .ml (recordOpnd r)
  | 0x5#4 => decodeFormN .txev (recordOpnd r)
  | 0x6#4 => decodeFormR .rxev (recordOpnd r)
  | 0x7#4 => decodeFormN .halt (recordOpnd r)
  | 0x8#4 => decodeFormP .pack12 (recordOpnd r)
  | 0xF#4 => decodeFormN .reset (recordOpnd r)
  | ev => .error (.reservedStepCode ev)

/-! ### Phase codes -/

/-- The code of a micro-operation (R31, R77). -/
def Phase.code : Phase → Nibble
  | .build => 0
  | .armtest => 1
  | .arm => 2
  | .rxtest => 3
  | .rxclr => 4
  | .cmp => 5
  | .errinc => 6
  | .txrdy => 7
  | .rxdis => 8

/-- The micro-operation a phase code names; none for 9 to 15 (R77, R80 b). -/
def phaseOf (code : Nibble) : Option Phase :=
  match code with
  | 0#4 => some .build
  | 1#4 => some .armtest
  | 2#4 => some .arm
  | 3#4 => some .rxtest
  | 4#4 => some .rxclr
  | 5#4 => some .cmp
  | 6#4 => some .errinc
  | 7#4 => some .txrdy
  | 8#4 => some .rxdis
  | _ => none

/-- The micro-operation that an `ML data` step performs in a phase; `data` is read only in `BUILD`
(R76, R121). -/
def Phase.instr (p : Phase) (data : DataWord) : Instr :=
  match p with
  | .build => .mlBuild data
  | .armtest => .mlArmtest
  | .arm => .mlArm
  | .rxtest => .mlRxtest
  | .rxclr => .mlRxclr
  | .cmp => .mlCmp
  | .errinc => .mlErrinc
  | .txrdy => .mlTxrdy
  | .rxdis => .mlRxdis

/-- The micro-operation that a phase code and the presented record stand for: the record must be an
`ML` record, the code one of 0 to 8 (R77). -/
def decodePhase (code : Nibble) (r : Record) : Except Reject Instr :=
  match decodeRecord r with
  | .ok (.ml data) =>
    match phaseOf code with
    | some p => .ok (p.instr data)
    | none => .error (.reservedPhase code)
  | .ok _ => .error (.notAnMlRecord r)
  | .error e => .error e

/-! ### Driver command records -/

/-- A command whose payload R78 fixes. -/
def decodeFixedPayload (dcmd : Nibble) (i : Instr) (want payload : Word32) : Except Reject Instr :=
  if payload = want then .ok i else .error (.reservedPayload dcmd payload)

/-- Decoding a driver command record (R78, R80 c). -/
def decodeCommand (c : Record) : Except Reject Instr :=
  match recordCode c with
  | 0x1#4 =>
    .ok (.send (opndByte 3 (recordOpnd c)) (opndByte 2 (recordOpnd c)) (opndByte 1 (recordOpnd c))
      (opndByte 0 (recordOpnd c)))
  | 0x2#4 => decodeFixedPayload 0x2 (.recv 2) 2 (recordOpnd c)
  | 0x3#4 => decodeFixedPayload 0x3 .armtx 0 (recordOpnd c)
  | 0x4#4 => decodeFixedPayload 0x4 .distx 0 (recordOpnd c)
  | 0x5#4 => decodeFixedPayload 0x5 .armrx 0 (recordOpnd c)
  | 0x6#4 => decodeFixedPayload 0x6 .disrx 0 (recordOpnd c)
  | 0x7#4 => decodeFixedPayload 0x7 .acktx 0 (recordOpnd c)
  | 0x8#4 => decodeFixedPayload 0x8 .ackrx 0 (recordOpnd c)
  | dcmd => .error (.reservedCommand dcmd)

/-- Decoding in each of the three code spaces. -/
def decode : Encoding → Except Reject Instr
  | .record r => decodeRecord r
  | .phase code r => decodePhase code r
  | .command c => decodeCommand c

/-! ### The encoder -/

/-- The operand field of forms D and F, `data << 8 | low byte` (R75). -/
def opndOfData (data : DataWord) (low : Byte) : Word32 := data ++ low

/-- The `ML` record with a given DataWord (R76). -/
def mlRecord (data : DataWord) : Record := makeRecord 0x4 (opndOfData data 0)

/-- The encoding of an instruction (R76 to R78). A micro-operation is the pair of its phase code and
the `ML` record presented with it; outside `BUILD` a script writes the data field as 0 (R76). -/
def encode : Instr → Encoding
  | .crc8 data => .record (makeRecord 0x1 (opndOfData data 0))
  | .crcchk data crc => .record (makeRecord 0x2 (opndOfData data crc))
  | .frame data => .record (makeRecord 0x3 (opndOfData data 0))
  | .ml data => .record (mlRecord data)
  | .txev => .record (makeRecord 0x5 0)
  | .rxev rx0 rx1 => .record (makeRecord 0x6 (0#16 ++ rx0 ++ rx1))
  | .halt => .record (makeRecord 0x7 0)
  | .pack12 a b => .record (makeRecord 0x8 (a ++ b))
  | .reset => .record (makeRecord 0xF 0)
  | .mlBuild data => .phase Phase.build.code (mlRecord data)
  | .mlArmtest => .phase Phase.armtest.code (mlRecord 0)
  | .mlArm => .phase Phase.arm.code (mlRecord 0)
  | .mlRxtest => .phase Phase.rxtest.code (mlRecord 0)
  | .mlRxclr => .phase Phase.rxclr.code (mlRecord 0)
  | .mlCmp => .phase Phase.cmp.code (mlRecord 0)
  | .mlErrinc => .phase Phase.errinc.code (mlRecord 0)
  | .mlTxrdy => .phase Phase.txrdy.code (mlRecord 0)
  | .mlRxdis => .phase Phase.rxdis.code (mlRecord 0)
  | .send b0 b1 b2 b3 => .command (makeRecord 0x1 (b0 ++ b1 ++ b2 ++ b3))
  | .recv count => .command (makeRecord 0x2 count)
  | .armtx => .command (makeRecord 0x3 0)
  | .distx => .command (makeRecord 0x4 0)
  | .armrx => .command (makeRecord 0x5 0)
  | .disrx => .command (makeRecord 0x6 0)
  | .acktx => .command (makeRecord 0x7 0)
  | .ackrx => .command (makeRecord 0x8 0)

/-- The instruction whose row stands for an entry of the driver trace (R78). -/
def DrvCmd.instr : DrvCmd → Instr
  | .send b0 b1 b2 b3 => .send b0 b1 b2 b3
  | .recv count => .recv count
  | .armtx => .armtx
  | .distx => .distx
  | .armrx => .armrx
  | .disrx => .disrx
  | .acktx => .acktx
  | .ackrx => .ackrx

/-- The command record of an entry of the driver trace, the value of `dcmd[35:0]` (R78, R83). -/
def DrvCmd.record (c : DrvCmd) : Record :=
  match encode c.instr with
  | .command w => w
  | .record w => w
  | .phase _ w => w

/-! ### The host's view of the table -/

/-- The encoding that a table word stands for when it is presented to the machine: a row of at most
8 bits is a phase code, presented with the `ML` record of data 0 (R77); a longer row is a stimulus
record (R75). A driver command record is an output and is never presented (R160), and its words
coincide with stimulus records of the same bits: those are read as stimulus records (notes 10). -/
def tableEncoding (nbits w : Nat) : Option Encoding :=
  if nbits ≤ 8 then
    if w < 16 then some (.phase (BitVec.ofNat 4 w) (mlRecord 0)) else none
  else
    if w < 2 ^ 36 then some (.record (BitVec.ofNat 36 w)) else none

/-- What the decoder reads from a table word; none where it refuses. -/
def decodeTableWord (nbits w : Nat) : Option Instr :=
  match tableEncoding nbits w with
  | none => none
  | some e =>
    match decode e with
    | .ok i => some i
    | .error _ => none

end Sys2Proof
end

