-- ==== Sys2Proof/Machine/State.lean ====
section
/-! DEFINITION. The state of the block (spec/10_state.md R20 to R40), the reasons a step can stop,
and the state after reset (R40, R211, R212). -/

namespace Sys2Proof.Machine

/-- A register without a reset value in the spec (R40, D22). It holds a value from reset on, `value`: at
reset the one the model names (note 2), and a read of the register gives it, written or not. `written`
records whether a step has written the register since reset, the condition of R38 d, e, R211 and R214;
it is an observer's bit that no operation reads. -/
structure Latch (α : Type) where
  value : α
  written : Bool
  deriving DecidableEq, Repr

/-- A Frame, `frame[0..3]`: byte0 first (R22, R51, R70). -/
structure Frame where
  b0 : Byte
  b1 : Byte
  b2 : Byte
  b3 : Byte
  deriving DecidableEq, Repr

/-- The ReceivedFrame, `rxFrame[0..1]`: the first byte received first (R23, R71). -/
structure RxPair where
  rx0 : Byte
  rx1 : Byte
  deriving DecidableEq, Repr

/-- What a pure operation returned, on the output signal R83 names for it. -/
inductive StepResult where
  /-- No pure operation was performed by the latest step. -/
  | none
  /-- `crc_out`, the result of `CRC8`. -/
  | crc (c : Byte)
  /-- `valid_out`, the result of `CRCCHK`. -/
  | valid (v : Bool)
  /-- `frame_out`, the result of `FRAME`. -/
  | frame (f : Frame)
  /-- `data_out`, the result of `PACK12`. -/
  | data (d : DataWord)
  deriving DecidableEq, Repr

/-- The state: the registers of R20, and the model's own two fields, which no rule of the spec
reads: `stim`, the stimulus records the environment has still to present, first one first (R75,
R83), and `result`, what the latest step returned on an output signal (R83). -/
@[ext]
structure State where
  /-- `dataWord`, 24 bits (R21). -/
  dataWord : Latch DataWord
  /-- `frame[0..3]`, 4 x 8 bits (R22). -/
  frame : Latch Frame
  /-- `rxFrame[0..1]`, 2 x 8 bits (R23). -/
  rxFrame : Latch RxPair
  /-- `expectedCursor`, 8 bits (R24). -/
  expectedCursor : Byte
  /-- `errorCount`, `ERRCNT_W` bits (R25). -/
  errorCount : BitVec Config.errcntW
  /-- `transmitReady`, 1 bit (R27). -/
  transmitReady : Bool
  /-- `receiveReady`, 1 bit (R28). -/
  receiveReady : Bool
  /-- `matchReg`, 1 bit (R30). -/
  matchReg : Latch Bool
  /-- `mlPhase`, 4 bits (R31). -/
  mlPhase : Nibble
  /-- `halted`, 1 bit (R32). -/
  halted : Bool
  /-- `txIntArmed`, 1 bit (R33). -/
  txIntArmed : Bool
  /-- `rxIntArmed`, 1 bit (R34). -/
  rxIntArmed : Bool
  /-- `drvTrace`, the driver commands issued since reset, oldest first (R36). -/
  drvTrace : List DrvCmd
  /-- The model's own: the records not yet presented. -/
  stim : List Record
  /-- The model's own: the result the latest step returned. -/
  result : StepResult
  deriving DecidableEq, Repr

/-- Faults. No step of this machine faults: `HALT` leads to a state with `halted = 1`, and a `Mismatch` is
counted (R180 to R182). -/
inductive Fault where
  /-- The fault that R40 and U10 name for a read before the first write. Raised by no meaning: every
  register holds a value from reset on (note 2), and no reachable step makes such a read (R214). -/
  | unwrittenRead
  deriving DecidableEq, Repr

/-- Refusals: "the model refuses the step (no state change, the run is marked refused)" (R80). -/
inductive Refusal where
  /-- An instruction without a meaning. Raised by no arm. Safe. -/
  | notModelled (mnemonic : String)
  /-- The record presented is a reserved encoding (R80 a). Raised by `step`. Safe. -/
  | reserved (why : Reject)
  /-- A main-loop, handler or HALT step while `halted = 1` (R58 a, R80 d). Raised by their
  meanings. Safe. -/
  | halted
  /-- `TXEV` while `txIntArmed = 0` (R58 c, R80 d). Raised by `execTxev`. Safe. -/
  | transmitLineDisarmed
  /-- `RXEV` while `rxIntArmed = 0` (R58 d, R80 d). Raised by `execRxev`. Safe. -/
  | receiveLineDisarmed
  /-- `ML` with `mlPhase` 9 to 15 (R80 b, R121). Raised by `execMl`. Safe. -/
  | phaseUnreachable (code : Nibble)
  /-- A micro-operation that `mlPhase` does not name: the assertion of `ML.<phase>` fails (R77,
  R82). Raised by the meanings of the nine micro-operations. Safe. -/
  | phaseNotSelected (code : Nibble)
  /-- `RECV` with a count other than 2, which the event does not guarantee to be staged: "must refuse
  it, not invent a return value" (U4, R162). Raised by `execRecv`. Safe. -/
  | recvCountNotStaged (count : Word32)
  deriving DecidableEq, Repr

/-- The outcomes of a step of this machine. -/
abbrev Out := Host.Outcome State Fault Refusal

/-- The reset state (R40, R211, R212). The four registers that the spec gives no reset value
hold the value the model names for each, zero, with `written = false` (note 2); `expectedCursor` is the
OPEN `CURSOR_INIT`. -/
def State.reset : State where
  dataWord := ⟨0, false⟩
  frame := ⟨⟨0, 0, 0, 0⟩, false⟩
  rxFrame := ⟨⟨0, 0⟩, false⟩
  expectedCursor := Config.cursorInit
  errorCount := 0
  transmitReady := true
  receiveReady := false
  matchReg := ⟨false, false⟩
  mlPhase := 0
  halted := false
  txIntArmed := false
  rxIntArmed := false
  drvTrace := []
  stim := []
  result := .none

end Sys2Proof.Machine
end

