-- ==== Sys2Proof/Machine/Operands.lean ====
section
/-! DEFINITION. Operand assembly and buffer reads: the bytes of a DataWord (spec/30_encoding.md R72,
R73), the composition of a DataWord from two words (R74), the two images (R70, R71), and the reads
`MemRead(space, k, 1)` of the two byte buffers (spec/00_scope.md R9, spec/20_memory.md R50). -/

namespace Sys2Proof.Machine

/-- `d <- data & 0xFFFFFF` (R73, R110, R122). -/
def truncData (data : DataWord) : DataWord := data &&& 0xFFFFFF#24

/-- `byte0 = data[23:16]` (R72). -/
def dataByte0 (data : DataWord) : Byte := data.extractLsb' 16 8

/-- `byte1 = data[15:8]` (R72). -/
def dataByte1 (data : DataWord) : Byte := data.extractLsb' 8 8

/-- `byte2 = data[7:0]` (R72). -/
def dataByte2 (data : DataWord) : Byte := data.extractLsb' 0 8

/-- The inverse of the split, `data = byte0 ++ byte1 ++ byte2` (R72). -/
def dataOfBytes (b0 b1 b2 : Byte) : DataWord := b0 ++ b1 ++ b2

/-- `((a & 0xFFF) << 12) | (b & 0xFFF)`, in 24 bits (R74). -/
def pack12 (a b : Word16) : DataWord :=
  ((a &&& 0xFFF#16).setWidth 24 <<< 12) ||| (b &&& 0xFFF#16).setWidth 24

/-- The 32-bit image of a Frame, `frame[0] ++ frame[1] ++ frame[2] ++ frame[3]` (R51, R70). -/
def Frame.image (f : Frame) : Word32 := f.b0 ++ f.b1 ++ f.b2 ++ f.b3

/-- The 16-bit image of a ReceivedFrame (R71). -/
def RxPair.image (p : RxPair) : Word16 := p.rx0 ++ p.rx1

/-- The second byte of the expected pair, `expectedCursor + 1 mod 256` (R51, R103 c). -/
def cursorNext (c : Byte) : Byte := c + 1

/-- The pair ML.CMP expects, `(expectedCursor, expectedCursor + 1 mod 256)` (R51, R71). -/
def expectedPair (c : Byte) : RxPair := ⟨c, cursorNext c⟩

/-- A byte of one of the two readable buffers (R50): the index of each is its byte number. -/
inductive BufAddr where
  | frame (k : Fin 4)
  | rxbuf (k : Fin 2)
  deriving DecidableEq, Repr

/-- Byte `k` of a Frame. -/
def Frame.byte (f : Frame) (k : Fin 4) : Byte :=
  match k with
  | 0 => f.b0
  | 1 => f.b1
  | 2 => f.b2
  | 3 => f.b3

/-- Byte `k` of a ReceivedFrame. -/
def RxPair.byte (p : RxPair) (k : Fin 2) : Byte :=
  match k with
  | 0 => p.rx0
  | 1 => p.rx1

/-- `MemRead(FRAME, k, 1)` and `MemRead(RXBUF, k, 1)` (R9). -/
def memRead (s : State) (a : BufAddr) : Byte :=
  match a with
  | .frame k => s.frame.value.byte k
  | .rxbuf k => s.rxFrame.value.byte k

end Sys2Proof.Machine
end

