-- ==== Sys2Proof/Machine/Flags.lean ====
section
/-! DEFINITION. The truth values the rules compute: the match of ML.CMP (spec/42 R127), the policy of
`CRCCHK` (spec/40_crc.md R98, R100), the four cursor policies (R134), the enabling conditions
(spec/20_memory.md R58) and the states the source names (R120). -/

namespace Sys2Proof.Machine

/-- `nz(a)`: "a is not zero" (R8). -/
def nz (a : Byte) : Bool := a != 0#8

/-- `match <- (rxFrame[0] == expectedCursor) and (rxFrame[1] == (expectedCursor + 1) mod 256)`
(R127). -/
def pairMatches (cursor : Byte) (p : RxPair) : Bool :=
  p.rx0 == cursor && p.rx1 == cursorNext cursor

/-- The validity of a check byte under a policy, from the recomputed value (R98, R100). -/
def verifyWith (policy : VerifyPolicy) (recomputed crc : Byte) : Bool :=
  match policy with
  | .literal => nz recomputed && nz crc
  | .equality => recomputed == crc

/-- `curV(c, match)` of the four named policies (R134). -/
def policyCurV (policy : CursorPolicy) (c : Byte) (m : Bool) : Byte :=
  match policy with
  | .hold => c
  | .incOnMatch => if m then cursorNext c else c
  | .incOnValidate => cursorNext c
  | .incOnRxev => c

/-- `curR(c)` of the four named policies (R134). -/
def policyCurR (policy : CursorPolicy) (c : Byte) : Byte :=
  match policy with
  | .hold => c
  | .incOnMatch => c
  | .incOnValidate => c
  | .incOnRxev => cursorNext c

/-- `TXEV` is enabled exactly when `txIntArmed = 1` and `halted = 0` (R58 c, R183). -/
def State.txEnabled (s : State) : Bool := s.txIntArmed && !s.halted

/-- `RXEV` is enabled exactly when `rxIntArmed = 1` and `halted = 0` (R58 d, R184). -/
def State.rxEnabled (s : State) : Bool := s.rxIntArmed && !s.halted

/-- `Idle` is `transmitReady = 1` (R120). -/
def State.isIdle (s : State) : Bool := s.transmitReady

/-- `Transmitting` is `transmitReady = 0` (R120). -/
def State.isTransmitting (s : State) : Bool := !s.transmitReady

/-- `AwaitingValidation` is `receiveReady = 1` (R120). -/
def State.isAwaitingValidation (s : State) : Bool := s.receiveReady

end Sys2Proof.Machine
end

