-- ==== Sys2Proof/Machine/Crc.lean ====
section
/-! DEFINITION. The CRC-8 generator and verifier and the Frame of a DataWord as functions
(spec/40_crc.md R90 to R100, spec/41_frame_codec.md R110). -/

namespace Sys2Proof.Machine

/-- One iteration: `if W[i+8] == 1: W <- W ^ (poly << i)`, the test on the current `W` (R90, R91). -/
def crcStep (poly w : Word32) (i : Nat) : Word32 :=
  if w.getLsbD (i + 8) then w ^^^ (poly <<< i) else w

/-- `n` iterations, for `i` from `low + n - 1` down to `low` (R90). -/
def crcLoop (poly : Word32) (low : Nat) : Nat → Word32 → Word32
  | 0, w => w
  | n + 1, w => crcLoop poly low n (crcStep poly w (low + n))

/-- The working value after the loop: `W <- zext_32(data) << 8`, then `i` from 23 down to `low`
(R90, R93). -/
def crcWork (poly : Word32) (low : Nat) (data : DataWord) : Word32 :=
  crcLoop poly low (Config.crcLoopHigh + 1 - low) (data.setWidth 32 <<< 8)

/-- `result <- (~W[7:0]) & 0xFF` (R90). -/
def crcResult (w : Word32) : Byte := ~~~(w.extractLsb' 0 8)

/-- `ComputeCrc` (R90): the literal `0x83`, the loop bound 1. -/
def crc8 (data : DataWord) : Byte :=
  crcResult (crcWork Config.crcPolyLiteral Config.crcLoopLow data)

/-- `FULL(data)` of R96, the untrimmed division; described by the spec and not the block's. -/
def crcFull (data : DataWord) : Byte := crcResult (crcWork Config.crcPolyLeading 0 data)

/-- `VerifyCrc` (R98) under the decided policy. -/
def crcchk (data : DataWord) (crc : Byte) : Bool :=
  verifyWith Config.verifyPolicy (crc8 data) crc

/-- The Frame of a DataWord (R110): the three bytes, first the most significant, and the check
byte. -/
def frameOf (data : DataWord) : Frame :=
  let d := truncData data
  ⟨dataByte0 d, dataByte1 d, dataByte2 d, crc8 d⟩

end Sys2Proof.Machine
end

