-- ==== Sys2Proof/Machine/Ops.lean ====
section
/-! DEFINITION. The shared operations: the named writes of the registers, the driver boundary
(spec/43_driver_interface.md R160), the two failures (spec/60_exceptions.md R180 to R182), the
enabling guards (R58), event entry and return (R188, R189), and the presentation of a record. -/

namespace Sys2Proof.Machine

/-! ### Register writes -/

/-- `mlPhase <- p` (R9, R31). -/
def State.setPhase (s : State) (p : Phase) : State := { s with mlPhase := p.code }

/-- `dataWord <- data & 0xFFFFFF` and `frame[0..3] <- FRAME(dataWord)`, at once (R54 c, R122). -/
def State.loadFrame (s : State) (data : DataWord) : State :=
  { s with dataWord := ⟨truncData data, true⟩, frame := ⟨frameOf (truncData data), true⟩ }

/-- `rxFrame[0] <- rx0; rxFrame[1] <- rx1` (R132). -/
def State.stage (s : State) (rx0 rx1 : Byte) : State :=
  { s with rxFrame := ⟨⟨rx0, rx1⟩, true⟩ }

/-- `expectedCursor <- c`. -/
def State.setCursor (s : State) (c : Byte) : State := { s with expectedCursor := c }

/-- `errorCount <- (errorCount + 1) mod 2^ERRCNT_W` (R128): the addition of the register's width. -/
def State.countError (s : State) : State := { s with errorCount := s.errorCount + 1 }

/-- `transmitReady <- b`. -/
def State.setTransmitReady (s : State) (b : Bool) : State := { s with transmitReady := b }

/-- `receiveReady <- b`. -/
def State.setReceiveReady (s : State) (b : Bool) : State := { s with receiveReady := b }

/-- `matchReg <- b`. -/
def State.setMatch (s : State) (b : Bool) : State := { s with matchReg := ⟨b, true⟩ }

/-- `halted <- 1`. -/
def State.setHalted (s : State) : State := { s with halted := true }

/-- A pure operation returns a value on its output signal (R83) and writes no register. -/
def State.returns (s : State) (r : StepResult) : State := { s with result := r }

/-- Every register takes its reset value (R211). The stimulus schedule and the output of the step
are no registers of the block and stay. -/
def State.toReset (s : State) : State := { State.reset with stim := s.stim, result := s.result }

/-! ### The driver boundary -/

/-- `txIntArmed` after a command (R163, R164). -/
def shadowTx (c : DrvCmd) (armed : Bool) : Bool :=
  match c with
  | .armtx => true
  | .distx => false
  | _ => armed

/-- `rxIntArmed` after a command (R165, R166). -/
def shadowRx (c : DrvCmd) (armed : Bool) : Bool :=
  match c with
  | .armrx => true
  | .disrx => false
  | _ => armed

/-- `Drv(c)`: "appends `c`, with its payload, to `drvTrace`, applies the effect on the shadow state
that `c`'s rule gives" (R160). The bytes a `RECV` returns are the operands of its `RXEV` step
(R162). -/
def State.drv (s : State) (c : DrvCmd) : State :=
  { s with
    drvTrace := s.drvTrace ++ [c]
    txIntArmed := shadowTx c s.txIntArmed
    rxIntArmed := shadowRx c s.rxIntArmed }

/-! ### Failures -/

/-- The two classes of failure (R180). -/
inductive Failure where
  | mismatch
  | fatalHalt
  deriving DecidableEq, Repr

/-- `raise`: "shorthand for the state change those rules give, not a transfer of control to a handler"
(R9). `Mismatch` records nothing about the bytes: `matchReg = 0` mirrors it and the next main-loop
step is ML.ERRINC (R181). `FatalHalt` writes `halted <- 1` and nothing else (R182). -/
def raiseFailure (f : Failure) (s : State) : State :=
  match f with
  | .mismatch => (s.setMatch false).setPhase .errinc
  | .fatalHalt => s.setHalted

/-! ### Guards -/

/-- No main-loop, handler or HALT step is enabled when `halted = 1` (R58 a): refused (R80 d). -/
def whenRunning (s : State) (k : Out) : Out :=
  if s.halted then .refused .halted else k

/-- A micro-operation is performed only while `mlPhase` holds its code (R31, R77, R82). -/
def whenSelected (p : Phase) (s : State) (k : Out) : Out :=
  whenRunning s (if s.mlPhase = p.code then k else .refused (.phaseNotSelected s.mlPhase))

/-- Taking an event (R188, R189): the handler runs as one atomic step when its line is armed; nothing
is saved at entry and nothing restored at return, so the handler's next state is the state after
the event. A line that is not armed fires no event (R80 d). -/
def takeEvent (armed : Bool) (disarmed : Refusal) (handler : State → State)
    (s : State) : Out :=
  whenRunning s (if armed then .next (handler s) else .refused disarmed)

/-! ### Presentation of a stimulus record -/

/-- What the environment presents at the next step. -/
inductive Fetched where
  /-- `stim_valid = 0`: no record is presented (R83). -/
  | idle
  /-- A reserved record (R80 a). -/
  | reserved (why : Reject)
  /-- A record that decodes, and the state in which its step happens. -/
  | issue (i : Instr) (s : State)
  deriving DecidableEq, Repr

/-- The first record of the schedule is taken from it; the output signals carry the result of the step
that begins. -/
def State.take (s : State) (rest : List Record) : State := { s with stim := rest, result := .none }

/-- Present and decode the first record of the schedule (R75, R79, R83). -/
def fetch (s : State) : Fetched :=
  match s.stim with
  | [] => .idle
  | r :: rest =>
    match decodeRecord r with
    | .ok i => .issue i (s.take rest)
    | .error e => .reserved e

/-- Put an encoding where the next step takes its instruction: a record at the head of the schedule; for
a micro-operation also its code into `mlPhase`, which selects it (R77). A driver command is an output
and is never presented (R160). -/
def State.present (s : State) (e : Encoding) : State :=
  match e with
  | .record r => { s with stim := r :: s.stim }
  | .phase code r => { s with mlPhase := code, stim := r :: s.stim }
  | .command _ => s

/-- `present` for a table word; a word wider than its row is cut to it. -/
def State.presentTableWord (s : State) (nbits w : Nat) : State :=
  if nbits ≤ 8 then s.present (.phase (BitVec.ofNat 4 w) (mlRecord 0))
  else s.present (.record (BitVec.ofNat 36 w))

end Sys2Proof.Machine
end

