-- ==== Sys2Proof/Machine/Codec.lean ====
section
/-! DEFINITION. The meanings of the four pure operations `CRC8`, `CRCCHK`, `FRAME`, `PACK12`
(spec/40_crc.md R90, R98; spec/41_frame_codec.md R110; spec/30_encoding.md R74). They are always
enabled, also when halted (R58 f), write no register and return a value on an output signal (R83). -/

namespace Sys2Proof.Machine

/-- `CRC8 data` (R90). -/
def execCrc8 (data : DataWord) (s : State) : Out := .next (s.returns (.crc (crc8 data)))

/-- `CRCCHK data, crc` (R98). -/
def execCrcchk (data : DataWord) (crc : Byte) (s : State) : Out :=
  .next (s.returns (.valid (crcchk data crc)))

/-- `FRAME data` (R110). -/
def execFrame (data : DataWord) (s : State) : Out := .next (s.returns (.frame (frameOf data)))

/-- `PACK12 a, b` (R74). -/
def execPack12 (a b : Word16) (s : State) : Out := .next (s.returns (.data (pack12 a b)))

end Sys2Proof.Machine
end

