-- ==== Sys2Proof/Machine/Driver.lean ====
section
/-! DEFINITION. The meanings of the eight driver commands (spec/43_driver_interface.md R161 to R168):
the act of issuing each, which is part of one atomic step of the core and never a step of its own
(R160). No stimulus record decodes to one. -/

namespace Sys2Proof.Machine

/-- `SEND b0, b1, b2, b3` (R161): the trace records the bytes offered; no status comes back. -/
def execSend (b0 b1 b2 b3 : Byte) (s : State) : Out := .next (s.drv (.send b0 b1 b2 b3))

/-- `RECV count` (R162): the count the core passes is 2; the bytes returned are the operands of the
`RXEV` step that issues it. A call for another count is refused (U4). -/
def execRecv (count : Word32) (s : State) : Out :=
  if count = 2#32 then .next (s.drv (.recv count)) else .refused (.recvCountNotStaged count)

/-- `ARMTX` (R163). -/
def execArmtx (s : State) : Out := .next (s.drv .armtx)

/-- `DISTX` (R164). -/
def execDistx (s : State) : Out := .next (s.drv .distx)

/-- `ARMRX` (R165). -/
def execArmrx (s : State) : Out := .next (s.drv .armrx)

/-- `DISRX` (R166). -/
def execDisrx (s : State) : Out := .next (s.drv .disrx)

/-- `ACKTX` (R167): clears the peripheral's latch, which is no state of the block. -/
def execAcktx (s : State) : Out := .next (s.drv .acktx)

/-- `ACKRX` (R168): clears the peripheral's latch and overflow flag, which are no state of the
block. -/
def execAckrx (s : State) : Out := .next (s.drv .ackrx)

end Sys2Proof.Machine
end

