-- ==== Sys2Proof/Machine/MicroOps.lean ====
section
/-! DEFINITION. What each micro-operation of the main loop and each handler does
(spec/42_transfer_coordinator.md R122 to R132), shared by `ML`, which performs the one `mlPhase`
names, and by the row of each. -/

namespace Sys2Proof.Machine

/-- ML.BUILD (R122). -/
def microBuild (data : DataWord) (s : State) : State := (s.loadFrame data).setPhase .armtest

/-- ML.ARMTEST (R123): one atomic read of `transmitReady`. -/
def microArmtest (s : State) : State :=
  if s.transmitReady then s.setPhase .arm else s.setPhase .rxtest

/-- ML.ARM (R124). -/
def microArm (s : State) : State := (s.drv .armtx).setPhase .rxtest

/-- ML.RXTEST (R125): one atomic read of `receiveReady`. -/
def microRxtest (s : State) : State :=
  if s.receiveReady then s.setPhase .rxclr else s.setPhase .build

/-- ML.RXCLR (R126). -/
def microRxclr (s : State) : State := (s.setReceiveReady false).setPhase .cmp

/-- ML.CMP under a cursor update `curV` (R127, R134): the comparison uses the cursor before its own
update; a mismatch raises `Mismatch`. -/
def microCmpWith (curV : Byte → Bool → Byte) (s : State) : State :=
  let m := pairMatches s.expectedCursor s.rxFrame.value
  let t := s.setCursor (curV s.expectedCursor m)
  if m then (t.setMatch true).setPhase .txrdy else raiseFailure .mismatch t

/-- ML.ERRINC (R128). -/
def microErrinc (s : State) : State := s.countError.setPhase .build

/-- ML.TXRDY (R129). -/
def microTxrdy (s : State) : State := (s.setTransmitReady true).setPhase .rxdis

/-- ML.RXDIS (R130). -/
def microRxdis (s : State) : State := (s.drv .disrx).setPhase .build

/-- The micro-operation a phase names (R77, R121); `data` is read only by ML.BUILD. -/
def microOp (p : Phase) (data : DataWord) (s : State) : State :=
  match p with
  | .build => microBuild data s
  | .armtest => microArmtest s
  | .arm => microArm s
  | .rxtest => microRxtest s
  | .rxclr => microRxclr s
  | .cmp => microCmpWith Config.curV s
  | .errinc => microErrinc s
  | .txrdy => microTxrdy s
  | .rxdis => microRxdis s

/-- The transmit-completion handler (R131), effects in its order: `SEND` of the current Frame,
`transmitReady <- 0`, `ARMRX`, `ACKTX`, `DISTX`. -/
def txHandler (s : State) : State :=
  let f := s.frame.value
  ((((s.drv (.send f.b0 f.b1 f.b2 f.b3)).setTransmitReady false).drv .armrx).drv .acktx).drv .distx

/-- The receive-completion handler under a cursor update `curR` (R132, R134), effects in its order:
`RECV 2` into `rxFrame`, `receiveReady <- 1`, the cursor update, `ACKRX`. -/
def rxHandlerWith (curR : Byte → Byte) (rx0 rx1 : Byte) (s : State) : State :=
  ((((s.drv (.recv 2)).stage rx0 rx1).setReceiveReady true).setCursor
    (curR s.expectedCursor)).drv .ackrx

end Sys2Proof.Machine
end

