-- ==== Sys2Proof/Machine/Events.lean ====
section
/-! DEFINITION. The meanings of the two completion events with their handlers, of the halt primitive
and of reset (spec/42_transfer_coordinator.md R131 to R133, spec/70_reset_and_hazards.md R211). -/

namespace Sys2Proof.Machine

/-- `TXEV` (R131, R183). -/
def execTxev (s : State) : Out := takeEvent s.txIntArmed .transmitLineDisarmed txHandler s

/-- `RXEV rx0, rx1` (R132, R184). -/
def execRxev (rx0 rx1 : Byte) (s : State) : Out :=
  takeEvent s.rxIntArmed .receiveLineDisarmed (rxHandlerWith Config.curR rx0 rx1) s

/-- `HALT` (R133): raises `FatalHalt`. -/
def execHalt (s : State) : Out := whenRunning s (.next (raiseFailure .fatalHalt s))

/-- `RESET` (R211): always enabled, also when halted; issues no driver command. -/
def execReset (s : State) : Out := .next s.toReset

end Sys2Proof.Machine
end

