-- ==== Sys2Proof/Machine/MainLoop.lean ====
section
/-! DEFINITION. The meanings of `ML` and of its nine micro-operations
(spec/42_transfer_coordinator.md R121 to R130). -/

namespace Sys2Proof.Machine

/-- `ML data` (R121): enabled when `halted = 0`, performs the micro-operation `mlPhase` names, and is
refused in the unreachable phases 9 to 15. -/
def execMl (data : DataWord) (s : State) : Out :=
  whenRunning s
    (match phaseOf s.mlPhase with
    | some p => .next (microOp p data s)
    | none => .refused (.phaseUnreachable s.mlPhase))

/-- `ML.BUILD data` (R122). -/
def execMlBuild (data : DataWord) (s : State) : Out :=
  whenSelected .build s (.next (microBuild data s))

/-- `ML.ARMTEST` (R123). -/
def execMlArmtest (s : State) : Out := whenSelected .armtest s (.next (microArmtest s))

/-- `ML.ARM` (R124). -/
def execMlArm (s : State) : Out := whenSelected .arm s (.next (microArm s))

/-- `ML.RXTEST` (R125). -/
def execMlRxtest (s : State) : Out := whenSelected .rxtest s (.next (microRxtest s))

/-- `ML.RXCLR` (R126). -/
def execMlRxclr (s : State) : Out := whenSelected .rxclr s (.next (microRxclr s))

/-- `ML.CMP` (R127). -/
def execMlCmp (s : State) : Out := whenSelected .cmp s (.next (microCmpWith Config.curV s))

/-- `ML.ERRINC` (R128). -/
def execMlErrinc (s : State) : Out := whenSelected .errinc s (.next (microErrinc s))

/-- `ML.TXRDY` (R129). -/
def execMlTxrdy (s : State) : Out := whenSelected .txrdy s (.next (microTxrdy s))

/-- `ML.RXDIS` (R130). -/
def execMlRxdis (s : State) : Out := whenSelected .rxdis s (.next (microRxdis s))

end Sys2Proof.Machine
end

