-- ==== Sys2Proof/Machine/Dispatch.lean ====
section
/-! DEFINITION. One arm per operation of spec/opcode_table.json. -/

namespace Sys2Proof.Machine

def exec (i : Instr) (s : State) : Host.Outcome State Fault Refusal :=
  match i with
  -- stimulus records (R76)
  | .crc8 data => Sys2Proof.Machine.execCrc8 data s
  | .crcchk data crc => Sys2Proof.Machine.execCrcchk data crc s
  | .frame data => Sys2Proof.Machine.execFrame data s
  | .ml data => Sys2Proof.Machine.execMl data s
  | .txev => Sys2Proof.Machine.execTxev s
  | .rxev rx0 rx1 => Sys2Proof.Machine.execRxev rx0 rx1 s
  | .halt => Sys2Proof.Machine.execHalt s
  | .pack12 a b => Sys2Proof.Machine.execPack12 a b s
  | .reset => Sys2Proof.Machine.execReset s
  -- micro-operations of the main loop (R77)
  | .mlBuild data => Sys2Proof.Machine.execMlBuild data s
  | .mlArmtest => Sys2Proof.Machine.execMlArmtest s
  | .mlArm => Sys2Proof.Machine.execMlArm s
  | .mlRxtest => Sys2Proof.Machine.execMlRxtest s
  | .mlRxclr => Sys2Proof.Machine.execMlRxclr s
  | .mlCmp => Sys2Proof.Machine.execMlCmp s
  | .mlErrinc => Sys2Proof.Machine.execMlErrinc s
  | .mlTxrdy => Sys2Proof.Machine.execMlTxrdy s
  | .mlRxdis => Sys2Proof.Machine.execMlRxdis s
  -- driver commands (R78)
  | .send b0 b1 b2 b3 => Sys2Proof.Machine.execSend b0 b1 b2 b3 s
  | .recv count => Sys2Proof.Machine.execRecv count s
  | .armtx => Sys2Proof.Machine.execArmtx s
  | .distx => Sys2Proof.Machine.execDistx s
  | .armrx => Sys2Proof.Machine.execArmrx s
  | .disrx => Sys2Proof.Machine.execDisrx s
  | .acktx => Sys2Proof.Machine.execAcktx s
  | .ackrx => Sys2Proof.Machine.execAckrx s

end Sys2Proof.Machine
end

