-- ==== Sys2Proof/Machine/Step.lean ====
section
/-! DEFINITION. One step of the machine: the environment presents the next stimulus record and the
operation it names is performed (spec/00_scope.md R10, spec/30_encoding.md R75, R83). -/

namespace Sys2Proof.Machine

/-- One step. With no record presented nothing happens (R83: one step happens where
`stim_valid = 1`); a reserved record is refused (R80 a). -/
def step (s : State) : Host.Outcome State Fault Refusal :=
  match fetch s with
  | .idle => .next s
  | .reserved why => .refused (.reserved why)
  | .issue i t => exec i t

/-- The host's table word, placed so that the next step takes it. -/
def State.withFetchWord (s : State) (nbits w : Nat) : State := s.presentTableWord nbits w

end Sys2Proof.Machine
end

