-- ==== Sys2Proof/Safety.lean ====
section
/-! DEFINITION. The terms the statements use: which agent performs an operation (spec/00_scope.md
R11), the registers as a whole (spec/10_state.md R20), fault states (R182), the invariant of R38 and
R214, the shape of the driver trace (R169), and sequences of operations. -/

namespace Sys2Proof.Machine

/-! ### Agents -/

/-- A step of the main loop: `ML` or the micro-operation it performs (R11, R121). -/
def isMainLoop : Instr → Bool
  | .ml _ | .mlBuild _ | .mlArmtest | .mlArm | .mlRxtest | .mlRxclr | .mlCmp | .mlErrinc
    | .mlTxrdy | .mlRxdis => true
  | .crc8 _ | .crcchk _ _ | .frame _ | .txev | .rxev _ _ | .halt | .pack12 _ _ | .reset
    | .send _ _ _ _ | .recv _ | .armtx | .distx | .armrx | .disrx | .acktx | .ackrx => false

/-- A pure operation (R11, R58 f). -/
def isPure : Instr → Bool
  | .crc8 _ | .crcchk _ _ | .frame _ | .pack12 _ _ => true
  | .ml _ | .txev | .rxev _ _ | .halt | .reset | .mlBuild _ | .mlArmtest | .mlArm | .mlRxtest
    | .mlRxclr | .mlCmp | .mlErrinc | .mlTxrdy | .mlRxdis | .send _ _ _ _ | .recv _ | .armtx
    | .distx | .armrx | .disrx | .acktx | .ackrx => false

/-- A driver command, which is never a step of its own (R160). -/
def isCommand : Instr → Bool
  | .send _ _ _ _ | .recv _ | .armtx | .distx | .armrx | .disrx | .acktx | .ackrx => true
  | .crc8 _ | .crcchk _ _ | .frame _ | .ml _ | .txev | .rxev _ _ | .halt | .pack12 _ _ | .reset
    | .mlBuild _ | .mlArmtest | .mlArm | .mlRxtest | .mlRxclr | .mlCmp | .mlErrinc | .mlTxrdy
    | .mlRxdis => false

/-- A receive event (R132). -/
def isRxev : Instr → Bool
  | .rxev _ _ => true
  | .crc8 _ | .crcchk _ _ | .frame _ | .ml _ | .txev | .halt | .pack12 _ _ | .reset | .mlBuild _
    | .mlArmtest | .mlArm | .mlRxtest | .mlRxclr | .mlCmp | .mlErrinc | .mlTxrdy | .mlRxdis
    | .send _ _ _ _ | .recv _ | .armtx | .distx | .armrx | .disrx | .acktx | .ackrx => false

/-! ### States -/

/-- The two states have the same registers of R20; the model's own fields may differ. -/
def SameRegisters (s t : State) : Prop := t = { s with stim := t.stim, result := t.result }

/-- "A state with `halted = 1` is a fault state" (R182). -/
def IsFaultState (s : State) : Prop := s.halted = true

/-- The invariant of R38 with what R214 and R30 say of the phases. -/
structure Inv (s : State) : Prop where
  /-- R38 b: `mlPhase` is in 0..8. -/
  phaseLegal : s.mlPhase.toNat ≤ 8
  /-- R38 a: the Frame is the Frame of `dataWord`. -/
  frameFresh : s.frame.written = true →
    s.dataWord.written = true ∧ s.frame.value = frameOf s.dataWord.value
  /-- R214: past ML.BUILD of the iteration `frame` has been written. -/
  frameBuilt : s.mlPhase ≠ Phase.build.code → s.frame.written = true
  /-- R38 e. -/
  armedFrame : s.txIntArmed = true → s.frame.written = true
  /-- R38 d. -/
  readyPair : s.receiveReady = true → s.rxFrame.written = true
  /-- R214: ML.RXCLR and ML.CMP run only after `receiveReady` was seen 1. -/
  validatedPair : s.mlPhase = Phase.rxclr.code ∨ s.mlPhase = Phase.cmp.code →
    s.rxFrame.written = true
  /-- R30: after a match, `matchReg` mirrors it. -/
  matchMirror : s.mlPhase = Phase.txrdy.code ∨ s.mlPhase = Phase.rxdis.code →
    s.matchReg = ⟨true, true⟩
  /-- R30: after a mismatch, `matchReg` mirrors it. -/
  mismatchMirror : s.mlPhase = Phase.errinc.code → s.matchReg = ⟨false, true⟩

/-- The two registers agree once written; before that their values may differ. -/
structure Latch.SameOnceWritten {α : Type} (l l' : Latch α) : Prop where
  written : l'.written = l.written
  value : l.written = true → l'.value = l.value

/-- The states differ at most in the values of registers that nothing has written since reset. -/
structure SameButUnwritten (s s' : State) : Prop where
  dataWord : s.dataWord.SameOnceWritten s'.dataWord
  frame : s.frame.SameOnceWritten s'.frame
  rxFrame : s.rxFrame.SameOnceWritten s'.rxFrame
  matchReg : s.matchReg.SameOnceWritten s'.matchReg
  rest : s' = { s with
    dataWord := s'.dataWord, frame := s'.frame, rxFrame := s'.rxFrame, matchReg := s'.matchReg }

/-! ### The driver trace -/

/-- The trace is made of whole groups, one per step that issues commands (R169). -/
def traceGrouped : List DrvCmd → Bool
  | [] => true
  | .armtx :: rest => traceGrouped rest
  | .disrx :: rest => traceGrouped rest
  | .send _ _ _ _ :: .armrx :: .acktx :: .distx :: rest => traceGrouped rest
  | .recv count :: .ackrx :: rest => count == 2#32 && traceGrouped rest
  | _ => false

/-- Before every `SEND`, and after the `SEND` before it, there is an `ARMTX`; `armed` says whether one
has been issued since the latest `SEND` (R169). -/
def sendsArmed (armed : Bool) : List DrvCmd → Bool
  | [] => true
  | .armtx :: rest => sendsArmed true rest
  | .send _ _ _ _ :: rest => armed && sendsArmed false rest
  | _ :: rest => sendsArmed armed rest

/-- Whether an `ARMTX` has been issued since the latest `SEND` of a trace. -/
def armedSinceSend (armed : Bool) : List DrvCmd → Bool
  | [] => armed
  | .armtx :: rest => armedSinceSend true rest
  | .send _ _ _ _ :: rest => armedSinceSend false rest
  | _ :: rest => armedSinceSend armed rest

/-- The shadow bit that the commands of a trace leave, from a start value (R163, R164). -/
def replayTx (armed : Bool) : List DrvCmd → Bool
  | [] => armed
  | c :: rest => replayTx (shadowTx c armed) rest

/-- The same for the receive line (R165, R166). -/
def replayRx (armed : Bool) : List DrvCmd → Bool
  | [] => armed
  | c :: rest => replayRx (shadowRx c armed) rest

/-- What R169 says of any trace, with the shadow bits the trace leaves (R33, R34). -/
structure TraceInv (s : State) : Prop where
  grouped : traceGrouped s.drvTrace = true
  armedSends : sendsArmed false s.drvTrace = true
  armedNow : s.txIntArmed = true → armedSinceSend false s.drvTrace = true
  shadowTx : s.txIntArmed = replayTx false s.drvTrace
  shadowRx : s.rxIntArmed = replayRx false s.drvTrace

/-! ### Sequences of operations -/

/-- The operations one after the other, stopping at the first fault or refusal. -/
def execAll : List Instr → State → Out
  | [], s => .next s
  | i :: rest, s =>
    match exec i s with
    | .next t => execAll rest t
    | .fault f => .fault f
    | .refused r => .refused r

/-- `ML data` and then `n` further steps `ML 0` (the records of `ITER`, R82). -/
def iterRecords (data : DataWord) (n : Nat) : List Instr := .ml data :: List.replicate n (.ml 0)

/-! ### Infinite executions -/

/-- An infinite execution: `records n` is what the environment presents at step `n`, `run n` the state
before it; every step completes (R10, R59). Nothing is asked of the environment: an enabled event
"may therefore never fire" (R67). -/
def IsExecution (records : Nat → Record) (run : Nat → State) : Prop :=
  ∀ n : Nat, step ((run n).present (.record (records n))) = .next (run (n + 1))

/-- The record is a step of the main loop, an `ML` record (R76, R121). -/
def IsMainLoopRecord (r : Record) : Prop := ∃ data : DataWord, decodeRecord r = .ok (.ml data)

/-- The main loop "is weakly fair, that is, in an infinite execution with `halted = 0` the main loop takes
infinitely many steps" (R67, D23): from every point on after which the block is never halted, there
is a later step of the main loop. -/
def WeaklyFair (records : Nat → Record) (run : Nat → State) : Prop :=
  ∀ n : Nat, (∀ m : Nat, n ≤ m → (run m).halted = false) →
    ∃ m : Nat, n ≤ m ∧ IsMainLoopRecord (records m)

/-- The link is stalled (R226 b, c): a Frame sent and no pair staged, in the phases through which the
main loop then idles. -/
structure Stalled (s : State) : Prop where
  running : s.halted = false
  awaitsMatch : s.transmitReady = false
  nothingStaged : s.receiveReady = false
  idles : s.mlPhase = Phase.build.code ∨ s.mlPhase = Phase.armtest.code ∨
    s.mlPhase = Phase.rxtest.code

/-- The link is as it was: only the Frame being built, the main loop's position and the output of the
step differ. -/
def SameLink (s t : State) : Prop :=
  t = { s with dataWord := t.dataWord, frame := t.frame, mlPhase := t.mlPhase, result := t.result }

/-! ### Counts in the driver trace -/

/-- The number of `SEND`s of a trace (R169). -/
def sendCount (trace : List DrvCmd) : Nat :=
  trace.countP fun c => match c with
    | .send _ _ _ _ => true
    | .recv _ | .armtx | .distx | .armrx | .disrx | .acktx | .ackrx => false

/-- The number of `RECV`s of a trace (R169). -/
def recvCount (trace : List DrvCmd) : Nat :=
  trace.countP fun c => match c with
    | .recv _ => true
    | .send _ _ _ _ | .armtx | .distx | .armrx | .disrx | .acktx | .ackrx => false

/-- The number of transmit events among the operations performed. -/
def txevCount (ops : List Instr) : Nat := ops.count .txev

/-- The number of receive events among the operations performed. -/
def rxevCount (ops : List Instr) : Nat := ops.countP isRxev

end Sys2Proof.Machine
end

