-- ==== Sys2Proof/Certificates/Slice0/Obligations.lean ====
section
/-! DEFINITION. The statements about the block, from the numbered rules of spec/. Each docstring names
the rule it formalises. An equation `exec i s = .next t` with `t` written as an update of `s` says
both that the instruction completes and what it leaves unchanged: every field that is not named. -/

open Sys2Proof Sys2Proof.Machine

/-! ### Encoding -/

/-- R75 to R79: decoding the encoding of a well-formed instruction, in the code space of its row, gives
the instruction back, with every operand. -/
def Obligations.DecodeOfEncodeIsTheInstruction : Prop :=
  ∀ i : Instr, i.WellFormed → decode (encode i) = .ok i

/-- R75, R76, R78, R79: a stimulus or driver command record that decodes is the encoding of what it
decodes to, so no bit of it is dropped; a phase code that decodes is the code of the micro-operation
it decodes to (the data field of the `ML` record is ignored outside `BUILD`). -/
def Obligations.EncodeOfDecodedRecordIsTheRecord : Prop :=
  (∀ (r : Record) (i : Instr), decodeRecord r = .ok i → encode i = .record r) ∧
  (∀ (c : Record) (i : Instr), decodeCommand c = .ok i → encode i = .command c) ∧
  (∀ (code : Nibble) (r : Record) (i : Instr), decodePhase code r = .ok i →
    ∃ r' : Record, encode i = .phase code r' ∧ (code = 0 → r' = r))

/-- R80 a: a stimulus record decodes exactly when its step code has a row and its must-be-0 field
is 0. -/
def Obligations.RecordDecodesExactlyWhenNotReserved : Prop :=
  ∀ r : Record, (∃ i, decodeRecord r = .ok i) ↔
    ((r.extractLsb' 32 4 = 0x1#4 ∨ r.extractLsb' 32 4 = 0x3#4 ∨ r.extractLsb' 32 4 = 0x4#4) ∧
      r.extractLsb' 0 8 = 0#8) ∨
    r.extractLsb' 32 4 = 0x2#4 ∨
    (r.extractLsb' 32 4 = 0x6#4 ∧ r.extractLsb' 16 16 = 0#16) ∨
    r.extractLsb' 32 4 = 0x8#4 ∨
    ((r.extractLsb' 32 4 = 0x5#4 ∨ r.extractLsb' 32 4 = 0x7#4 ∨ r.extractLsb' 32 4 = 0xF#4) ∧
      r.extractLsb' 0 32 = 0#32)

/-- R75 to R78: whatever decodes, in any of the three code spaces, is well-formed. -/
def Obligations.DecodedIsWellFormed : Prop :=
  ∀ (e : Encoding) (i : Instr), decode e = .ok i → i.WellFormed

/-- Words written out from R76 to R78 decode to the instructions they stand for, and two reserved
records are rejected (R80 a). -/
def Obligations.SpecWordsDecode : Prop :=
  decodeRecord 0x112345600#36 = .ok (.crc8 0x123456) ∧
  decodeRecord 0x212345613#36 = .ok (.crcchk 0x123456 0x13) ∧
  decodeRecord 0x600001011#36 = .ok (.rxev 0x10 0x11) ∧
  decodeRecord 0x809780536#36 = .ok (.pack12 0x0978 0x0536) ∧
  decodePhase 5#4 0x400000000#36 = .ok .mlCmp ∧
  decodeCommand 0x112345613#36 = .ok (.send 0x12 0x34 0x56 0x13) ∧
  decodeRecord 0x412345601#36 = .error (.mustBeZero .d 0x12345601) ∧
  decodeRecord 0x900000000#36 = .error (.reservedStepCode 9)

/-- R160: "A command is never issued on its own": no stimulus record decodes to a driver command, nor
to a micro-operation, which only an `ML` record performs (R77). -/
def Obligations.RecordsNeverDecodeToCommands : Prop :=
  ∀ (r : Record) (i : Instr), decodeRecord r = .ok i →
    isCommand i = false ∧ ∀ (p : Phase) (data : DataWord), i ≠ p.instr data

/-! ### The step -/

/-- R10, R79, R80 a, R83: a step performs the operation of the first record presented, in the state
with that record taken and the output signals cleared (the model's own fields, note 8); a reserved
record is refused; with no record nothing happens (note 9). -/
def Obligations.StepRunsTheDecodedRecord : Prop :=
  (∀ (s : State) (r : Record) (rest : List Record) (i : Instr), s.stim = r :: rest →
    decodeRecord r = .ok i → step s = exec i { s with stim := rest, result := .none }) ∧
  (∀ (s : State) (r : Record) (rest : List Record) (e : Reject), s.stim = r :: rest →
    decodeRecord r = .error e → step s = .refused (.reserved e)) ∧
  (∀ s : State, s.stim = [] → step s = .next s)

/-- The model's interface (note 10): a table word placed by `withFetchWord` is what the next step
performs; a phase code is performed as the `ML` step that `mlPhase` selects (R77). -/
def Obligations.PlacedTableWordIsPerformed : Prop :=
  (∀ (s : State) (r : Record) (i : Instr), decodeRecord r = .ok i →
    decodeTableWord 40 r.toNat = some i ∧
    step (s.withFetchWord 40 r.toNat) = exec i { s with result := .none }) ∧
  (∀ (s : State) (p : Phase),
    decodeTableWord 8 p.code.toNat = some (p.instr 0) ∧
    step (s.withFetchWord 8 p.code.toNat) =
      exec (p.instr 0) { s with mlPhase := p.code, result := .none })

/-! ### CRC8, CRCCHK, FRAME, PACK12 -/

/-- R90: `CRC8` returns the complement of the low 8 bits of the working value after the 23 iterations,
writes no register and completes in every state; its encoding, its corner cases and its worked
example. -/
def Obligations.Crc8FollowsTheBitLoop : Prop :=
  (∀ (data : DataWord) (s : State), exec (.crc8 data) s = .next { s with
    result := .crc (~~~((([23, 22, 21, 20, 19, 18, 17, 16, 15, 14, 13, 12, 11, 10, 9, 8, 7, 6, 5, 4, 3, 2, 1] :
      List Nat).foldl
        (fun (w : BitVec 32) i => if w.getLsbD (i + 8) then w ^^^ (0x00000083#32 <<< i) else w)
        (data.setWidth 32 <<< 8)).extractLsb' 0 8)) }) ∧
  (∀ data : DataWord, encode (.crc8 data) = .record (0x1#4 ++ (data ++ 0#8))) ∧
  crc8 0x000000 = 0xFF ∧ crc8 0x000001 = 0xFF ∧ crc8 0xFFFFFF = 0x0F ∧ crc8 0x800000 = 0xF7 ∧
  crc8 0x000002 = 0xF9

/-- R94: the closed form of `CRC8` with its 24 column constants, and the affine identity. -/
def Obligations.Crc8IsTheAffineColumnForm : Prop :=
  (∀ (data : DataWord) (s : State), exec (.crc8 data) s = .next { s with
    result := .crc (0xFF#8 ^^^ ((List.range 24).foldl (fun (acc : BitVec 8) k => if data.getLsbD k then
      acc ^^^ ([0x00, 0x06, 0x0A, 0x12, 0x22, 0x42, 0x82, 0x02, 0x04, 0x08, 0x10, 0x20,
        0x40, 0x80, 0x00, 0x06, 0x0A, 0x12, 0x22, 0x42, 0x82, 0x02, 0x04, 0x08] :
        List (BitVec 8)).getD k 0 else acc) 0#8)) }) ∧
  (∀ x y : DataWord, crc8 (x ^^^ y) = crc8 x ^^^ crc8 y ^^^ 0xFF#8)

/-- R95 a, c, d and the set of b: the results are exactly the odd bytes; data bits 0 and 14 have no
influence; bits k and k+14 have the same column for k in 0..9; 0 and 1 collide. -/
def Obligations.Crc8ResultsAreTheOddBytes : Prop :=
  (∀ data : DataWord, (crc8 data).getLsbD 0 = true) ∧
  (∀ b : Byte, b.getLsbD 0 = true → ∃ data : DataWord, crc8 data = b) ∧
  (∀ data : DataWord, crc8 (data ^^^ 0x000001#24) = crc8 data ∧
    crc8 (data ^^^ 0x004000#24) = crc8 data) ∧
  (∀ k : Nat, k ≤ 9 → crc8 (1#24 <<< (k + 14)) = crc8 (1#24 <<< k)) ∧
  crc8 0x000000 = crc8 0x000001

/-- R92: the literal `0x83` and the polynomial with its leading term, `0x183`, give the same result for
every input; with `0x183` bits 31:9 of the working value are 0 after the loop. -/
def Obligations.LiteralAndLeadingPolynomialAgree : Prop :=
  ∀ data : DataWord,
    crcResult (crcWork Config.crcPolyLeading Config.crcLoopLow data) = crc8 data ∧
    (crcWork Config.crcPolyLeading Config.crcLoopLow data).extractLsb' 9 23 = 0#23

/-- R96: the trimmed loop differs from the untrimmed division by `0x83` exactly when bit 8 of the
working value is 1 after the loop; the rule's three examples. -/
def Obligations.TrimmedLoopAgainstUntrimmedDivision : Prop :=
  (∀ data : DataWord, crc8 data = crcFull data ^^^
    (if (crcWork Config.crcPolyLiteral Config.crcLoopLow data).getLsbD 8 then 0x83#8 else 0#8)) ∧
  (crc8 0x000001 = 0xFF ∧ crcFull 0x000001 = 0x7C) ∧
  (crc8 0x978536 = 0x31 ∧ crcFull 0x978536 = 0xB2) ∧
  (crc8 0x123456 = 0x13 ∧ crcFull 0x123456 = 0x13)

/-- R98: `CRCCHK` is the AND of two nonzero tests, not an equality; it completes in every state and
writes no register; its encoding, its corner cases and its worked example. -/
def Obligations.CrcchkIsTheAndOfTwoNonzeroTests : Prop :=
  (∀ (data : DataWord) (crc : Byte) (s : State), exec (.crcchk data crc) s =
    .next { s with result := .valid (decide (crc8 data ≠ 0#8) && decide (crc ≠ 0#8)) }) ∧
  (∀ (data : DataWord) (crc : Byte), encode (.crcchk data crc) = .record (0x2#4 ++ (data ++ crc))) ∧
  (∀ data : DataWord, crcchk data 0x00 = false) ∧
  (∀ (data : DataWord) (crc : Byte), crc ≠ 0 → crcchk data crc = true) ∧
  (∀ data : DataWord, crcchk data (crc8 data) = true) ∧
  crcchk 0x123456 0x13 = true ∧ crcchk 0x123456 0x14 = true ∧ crcchk 0x123456 0x00 = false

/-- R99: the result of `CRCCHK` does not depend on `data` at all: it is "crc is not zero". -/
def Obligations.CrcchkIgnoresTheData : Prop :=
  ∀ (data : DataWord) (crc : Byte) (s : State),
    exec (.crcchk data crc) s = .next { s with result := .valid (crc != 0#8) }

/-- R110: `FRAME` returns the three bytes of the DataWord, most significant first, and the check byte;
as an image `(d << 8) | b3`; it completes in every state and writes no register; its encoding, its
corner cases and its worked example. -/
def Obligations.FrameIsBigEndianDataThenCheckByte : Prop :=
  (∀ (data : DataWord) (s : State), exec (.frame data) s = .next { s with
    result := .frame ⟨data.extractLsb' 16 8, data.extractLsb' 8 8, data.extractLsb' 0 8, crc8 data⟩ }) ∧
  (∀ data : DataWord, (frameOf data).image =
    (data.setWidth 32 <<< 8) ||| (crc8 data).setWidth 32) ∧
  (∀ data : DataWord, encode (.frame data) = .record (0x3#4 ++ (data ++ 0#8))) ∧
  frameOf 0 = ⟨0x00, 0x00, 0x00, 0xFF⟩ ∧ frameOf 0xFFFFFF = ⟨0xFF, 0xFF, 0xFF, 0x0F⟩ ∧
  (∀ data : DataWord, (frameOf (data ^^^ 0x000001#24)).b3 = (frameOf data).b3 ∧
    (frameOf (data ^^^ 0x004000#24)).b3 = (frameOf data).b3) ∧
  frameOf 0x123456 = ⟨0x12, 0x34, 0x56, 0x13⟩ ∧ (frameOf 0x123456).image = 0x12345613

/-- R113 and R72: the DataWord is recovered from the first three bytes of its Frame, and every Frame the
block produces passes `CRCCHK`. -/
def Obligations.ProducedFramesPassCrcchk : Prop :=
  ∀ (data : DataWord) (s : State),
    dataOfBytes (frameOf data).b0 (frameOf data).b1 (frameOf data).b2 = data ∧
    exec (.crcchk (dataOfBytes (frameOf data).b0 (frameOf data).b1 (frameOf data).b2)
      (frameOf data).b3) s = .next { s with result := .valid true }

/-- R74: `PACK12` returns `a[11:0]` in bits 23:12 and `b[11:0]` in bits 11:0; it completes in every
state and writes no register; its corner cases and its example. -/
def Obligations.Pack12ConcatenatesTheLowFields : Prop :=
  (∀ (a b : Word16) (s : State), exec (.pack12 a b) s =
    .next { s with result := .data (a.extractLsb' 0 12 ++ b.extractLsb' 0 12) }) ∧
  pack12 0 0 = 0 ∧ pack12 0xFFFF 0xFFFF = 0xFFFFFF ∧ pack12 0x0978 0x0536 = 0x978536

/-- R97, R101: a pure operation returns the same value in any two states and leaves every register of
each as it was; it completes also when halted (R58 f). -/
def Obligations.PureOperationsReadAndWriteNoState : Prop :=
  ∀ i : Instr, isPure i = true → ∃ r : StepResult, r ≠ .none ∧
    ∀ s : State, exec i s = .next { s with result := r }

/-! ### The main loop -/

/-- R122: ML.BUILD loads `dataWord` and the four bytes of its Frame and goes to `ARMTEST`, whatever the
flags are; its worked example. -/
def Obligations.MlBuildLoadsTheFrame : Prop :=
  (∀ (s : State) (data : DataWord), s.halted = false → s.mlPhase = 0 →
    exec (.mlBuild data) s = .next { s with
      dataWord := ⟨data, true⟩
      frame := ⟨⟨data.extractLsb' 16 8, data.extractLsb' 8 8, data.extractLsb' 0 8, crc8 data⟩,
        true⟩
      mlPhase := 1 }) ∧
  frameOf 0x978536 = ⟨0x97, 0x85, 0x36, 0x31⟩

/-- R123: ML.ARMTEST goes to `ARM` when `transmitReady` is 1, else to `RXTEST`, and changes nothing
else. -/
def Obligations.MlArmtestBranchesOnTransmitReady : Prop :=
  ∀ s : State, s.halted = false → s.mlPhase = 1 →
    exec .mlArmtest s = .next { s with mlPhase := if s.transmitReady = true then 2 else 3 }

/-- R124: ML.ARM issues `ARMTX`, so the transmit line is armed, and goes to `RXTEST`; the flags are
unchanged and no byte is sent; after it `TXEV` is enabled. -/
def Obligations.MlArmArmsTheTransmitLine : Prop :=
  ∀ s : State, s.halted = false → s.mlPhase = 2 →
    ∃ t : State, exec .mlArm s = .next t ∧ t.txEnabled = true ∧
      t = { s with drvTrace := s.drvTrace ++ [.armtx], txIntArmed := true, mlPhase := 3 }

/-- R125: ML.RXTEST goes to `RXCLR` when `receiveReady` is 1, else back to `BUILD`, and changes nothing
else. -/
def Obligations.MlRxtestBranchesOnReceiveReady : Prop :=
  ∀ s : State, s.halted = false → s.mlPhase = 3 →
    exec .mlRxtest s = .next { s with mlPhase := if s.receiveReady = true then 4 else 0 }

/-- R126: ML.RXCLR clears `receiveReady` and goes to `CMP`. -/
def Obligations.MlRxclrClearsReceiveReady : Prop :=
  ∀ s : State, s.halted = false → s.mlPhase = 4 →
    exec .mlRxclr s = .next { s with receiveReady := false, mlPhase := 5 }

/-- R127 with R181: ML.CMP compares the pair with the cursor before its own update, mirrors the outcome in
`matchReg`, updates the cursor through `curV`, and goes to `TXRDY` on a match and to `ERRINC` on a
mismatch; nothing else changes. -/
def Obligations.MlCmpComparesWithTheCursor : Prop :=
  ∀ s : State, s.halted = false → s.mlPhase = 5 →
    (s.rxFrame.value.rx0 = s.expectedCursor ∧ s.rxFrame.value.rx1 = s.expectedCursor + 1 →
      exec .mlCmp s = .next { s with
        matchReg := ⟨true, true⟩
        expectedCursor := Config.curV s.expectedCursor true
        mlPhase := 7 }) ∧
    (¬(s.rxFrame.value.rx0 = s.expectedCursor ∧ s.rxFrame.value.rx1 = s.expectedCursor + 1) →
      exec .mlCmp s = .next { s with
        matchReg := ⟨false, true⟩
        expectedCursor := Config.curV s.expectedCursor false
        mlPhase := 6 })

/-- The model's choice (note 2; the spec gives the registers no reset value, and R40 and U10 would make such
a read a fault): a read of a buffer that nothing has written since reset gives the zeros the model names
for it, and the operation completes. ML.CMP compares `00 00`, which no cursor expects, and `TXEV` sends
`00 00 00 00`. No reachable step makes such a read (R214). -/
def Obligations.ReadsOfUnwrittenBuffersGiveTheNamedValue : Prop :=
  (∀ k : Fin 4, memRead State.reset (.frame k) = 0) ∧
  (∀ k : Fin 2, memRead State.reset (.rxbuf k) = 0) ∧
  (∀ s : State, s.halted = false → s.mlPhase = 5 → s.rxFrame = State.reset.rxFrame →
    exec .mlCmp s = .next { s with
      matchReg := ⟨false, true⟩
      expectedCursor := Config.curV s.expectedCursor false
      mlPhase := 6 }) ∧
  (∀ s : State, s.halted = false → s.txIntArmed = true → s.frame = State.reset.frame →
    ∃ t : State, exec .txev s = .next t ∧
      t.drvTrace = s.drvTrace ++ [.send 0 0 0 0, .armrx, .acktx, .distx])

/-- R128: ML.ERRINC adds 1 to `errorCount` modulo `2^ERRCNT_W` and goes to `BUILD`; no flag, line or
`halted` changes. -/
def Obligations.MlErrincCountsModuloTheWidth : Prop :=
  ∀ s : State, s.halted = false → s.mlPhase = 6 →
    ∃ t : State, exec .mlErrinc s = .next t ∧
      t = { s with errorCount := t.errorCount, mlPhase := 0 } ∧
      t.errorCount.toNat = (s.errorCount.toNat + 1) % 2 ^ Config.errcntW

/-- R129: ML.TXRDY writes `transmitReady <- 1` and goes to `RXDIS`. -/
def Obligations.MlTxrdySetsTransmitReady : Prop :=
  ∀ s : State, s.halted = false → s.mlPhase = 7 →
    exec .mlTxrdy s = .next { s with transmitReady := true, mlPhase := 8 }

/-- R130: ML.RXDIS issues `DISRX`, so the receive line is disarmed, and goes to `BUILD`; after it RXEV is
not enabled. -/
def Obligations.MlRxdisDisarmsTheReceiveLine : Prop :=
  ∀ s : State, s.halted = false → s.mlPhase = 8 →
    ∃ t : State, exec .mlRxdis s = .next t ∧ t.rxEnabled = false ∧
      t = { s with drvTrace := s.drvTrace ++ [.disrx], rxIntArmed := false, mlPhase := 0 }

/-- R121, R80 b: an `ML` step does what the micro-operation that `mlPhase` names does, with the data of
its record, and is refused in phases 9 to 15. -/
def Obligations.MlPerformsTheNamedMicroOperation : Prop :=
  (∀ (s : State) (p : Phase) (data : DataWord), s.mlPhase = p.code →
    exec (.ml data) s = exec (p.instr data) s) ∧
  (∀ (s : State) (data : DataWord), s.halted = false → 9 ≤ s.mlPhase.toNat →
    exec (.ml data) s = .refused (.phaseUnreachable s.mlPhase))

/-- R58 b: "the main loop never waits for anything": in every legal phase an `ML` step completes whenever
the block is not halted, keeps the invariant where it holds, and reads only a record presented in
`BUILD`. -/
def Obligations.MlCompletesWheneverRunning : Prop :=
  ∀ s : State, s.mlPhase.toNat ≤ 8 → s.halted = false → ∀ data : DataWord,
    ∃ t : State, exec (.ml data) s = .next t ∧ (Inv s → Inv t) ∧
      (s.mlPhase ≠ 0 → exec (.ml 0) s = .next t)

/-- A micro-operation of its own row happens only while the block runs (R58 a) and `mlPhase` holds its code,
and is refused by name otherwise. That a row performed alone is refused outside its phase is the
model's reading (note 6, DEDUCED) of the assertion that R82 gives `ML.<phase>`, and of R80 d. -/
def Obligations.MicroOperationNeedsItsPhase : Prop :=
  ∀ (s : State) (p : Phase) (data : DataWord),
    (s.halted = true → exec (p.instr data) s = .refused .halted) ∧
    (s.halted = false → s.mlPhase ≠ p.code →
      exec (p.instr data) s = .refused (.phaseNotSelected s.mlPhase))

/-! ### Events, halt, reset -/

/-- R131, R183: an armed `TXEV` sends the four bytes of `frame` in index order, writes
`transmitReady <- 0`, arms the receive line, acknowledges and disarms its own line, in one step and in
that order, without testing `transmitReady`; it cannot then fire again; disarmed or halted it does not
happen; in a block that meets the invariant it cannot run before the first ML.BUILD; its encoding. -/
def Obligations.TxevSendsTheFrameAndDisarms : Prop :=
  (∀ s : State, s.halted = false → s.txIntArmed = true →
    ∃ t : State, exec .txev s = .next t ∧ exec .txev t = .refused .transmitLineDisarmed ∧
      t = { s with
        transmitReady := false, txIntArmed := false, rxIntArmed := true
        drvTrace := s.drvTrace ++ [.send s.frame.value.b0 s.frame.value.b1 s.frame.value.b2
          s.frame.value.b3, .armrx, .acktx, .distx] }) ∧
  (∀ s : State, s.halted = false → s.txIntArmed = false →
    exec .txev s = .refused .transmitLineDisarmed) ∧
  (∀ s : State, s.halted = true → exec .txev s = .refused .halted) ∧
  (∀ s : State, Inv s → s.frame.written = false → ∃ r : Refusal, exec .txev s = .refused r) ∧
  encode .txev = .record 0x500000000#36

/-- R132, R184: an armed `RXEV` stages the two bytes, first byte first, sets `receiveReady`, updates the
cursor through `curR`, and issues `RECV 2` and `ACKRX` in that order; it changes no line, so it can fire
again at once; disarmed or halted it does not happen; its encoding. -/
def Obligations.RxevStagesThePair : Prop :=
  (∀ (s : State) (rx0 rx1 : Byte), s.halted = false → s.rxIntArmed = true →
    ∃ t : State, exec (.rxev rx0 rx1) s = .next t ∧ t.rxEnabled = true ∧
      t = { s with
        rxFrame := ⟨⟨rx0, rx1⟩, true⟩, receiveReady := true
        expectedCursor := Config.curR s.expectedCursor
        drvTrace := s.drvTrace ++ [.recv 2, .ackrx] }) ∧
  (∀ (s : State) (rx0 rx1 : Byte), s.halted = false → s.rxIntArmed = false →
    exec (.rxev rx0 rx1) s = .refused .receiveLineDisarmed) ∧
  (∀ (s : State) (rx0 rx1 : Byte), s.halted = true → exec (.rxev rx0 rx1) s = .refused .halted) ∧
  (∀ rx0 rx1 : Byte, encode (.rxev rx0 rx1) = .record (0x6#4 ++ (0#16 ++ rx0 ++ rx1)))

/-- R133: `HALT` sets `halted` and leaves every other register; after it no `ML`, `TXEV`, `RXEV` or
`HALT` step is enabled, only `RESET` and the pure operations are. -/
def Obligations.HaltFreezesTheBlock : Prop :=
  (∀ s : State, s.halted = false → exec .halt s = .next { s with halted := true }) ∧
  encode .halt = .record 0x700000000#36 ∧
  (∀ s : State, s.halted = true →
    (∀ data : DataWord, exec (.ml data) s = .refused .halted) ∧
    exec .txev s = .refused .halted ∧
    (∀ rx0 rx1 : Byte, exec (.rxev rx0 rx1) s = .refused .halted) ∧
    exec .halt s = .refused .halted ∧
    (∃ t : State, exec .reset s = .next t) ∧
    (∀ i : Instr, isPure i = true → ∃ t : State, exec i s = .next t))

/-- R211: `RESET` installs the reset value of every register in every state, also when halted, and issues no
driver command: the trace is empty. `dataWord`, `frame`, `rxFrame` and `matchReg`, which the rule leaves
without a value, are marked as not written. The last clause on the state, `SameRegisters State.reset t`, also
fixes the values those four then hold, the zeros of the reset state: that is the model's choice (note 2,
DESIGN CHOICE) and no rule of the spec. -/
def Obligations.ResetInstallsTheResetValues : Prop :=
  (∀ s : State, ∃ t : State, exec .reset s = .next t ∧
    t.transmitReady = true ∧ t.receiveReady = false ∧ t.mlPhase = 0 ∧ t.halted = false ∧
    t.errorCount = 0 ∧ t.txIntArmed = false ∧ t.rxIntArmed = false ∧
    t.expectedCursor = Config.cursorInit ∧ t.drvTrace = [] ∧ t.dataWord.written = false ∧
    t.frame.written = false ∧ t.rxFrame.written = false ∧ t.matchReg.written = false ∧
    SameRegisters State.reset t) ∧
  encode .reset = .record 0xF00000000#36

/-- R212: the reset state, written out, and the steps that are enabled in it: `ML` (which performs
ML.BUILD), `HALT`, `RESET` and the pure operations; neither event can fire. -/
def Obligations.ResetStateAndItsEnabledSteps : Prop :=
  (State.reset.transmitReady = true ∧ State.reset.receiveReady = false ∧
    State.reset.mlPhase = Phase.build.code ∧ State.reset.halted = false ∧
    State.reset.errorCount = 0 ∧ State.reset.txIntArmed = false ∧ State.reset.rxIntArmed = false ∧
    State.reset.expectedCursor = Config.cursorInit ∧ State.reset.drvTrace = [] ∧
    State.reset.dataWord.written = false ∧ State.reset.frame.written = false ∧
    State.reset.rxFrame.written = false ∧ State.reset.matchReg.written = false ∧
    State.reset.isIdle = true) ∧
  (∀ data : DataWord, ∃ t : State, exec (.ml data) State.reset = .next t ∧
    exec (.mlBuild data) State.reset = .next t) ∧
  (∃ t : State, exec .halt State.reset = .next t) ∧
  (∃ t : State, exec .reset State.reset = .next t) ∧
  (∀ i : Instr, isPure i = true → ∃ t : State, exec i State.reset = .next t) ∧
  exec .txev State.reset = .refused .transmitLineDisarmed ∧
  (∀ rx0 rx1 : Byte, exec (.rxev rx0 rx1) State.reset = .refused .receiveLineDisarmed)

/-- The model's choices at reset (notes 2, 3, 8 and 9): the value named for each register the rules
give none, an empty schedule and no result. The spec gives none of these. -/
def Obligations.ModelsOwnResetValues : Prop :=
  State.reset.dataWord.value = 0 ∧ State.reset.frame.value = ⟨0, 0, 0, 0⟩ ∧
  State.reset.rxFrame.value = ⟨0, 0⟩ ∧ State.reset.matchReg.value = false ∧
  State.reset.stim = [] ∧ State.reset.result = .none ∧ step State.reset = .next State.reset

/-- R38 c, R182: from a halted state a step that completes leaves every register as it was, unless it
performs `RESET`, which clears the bit. -/
def Obligations.HaltedIsAbsorbingButForReset : Prop :=
  ∀ s t : State, IsFaultState s → step s = .next t →
    (SameRegisters s t ∧ IsFaultState t) ∨
    (∃ (r : Record) (rest : List Record), s.stim = r :: rest ∧ decodeRecord r = .ok .reset ∧
      SameRegisters State.reset t)

/-- R134: for each of the four named policies, a receive event and the comparison that follows: the pair the
comparison expects starts at the cursor after the event's own update, and the cursor after each. -/
def Obligations.NamedCursorPoliciesUpdateTheCursor : Prop :=
  ∀ (policy : CursorPolicy) (s : State) (rx0 rx1 : Byte), ∃ t u : State,
    rxHandlerWith (policyCurR policy) rx0 rx1 s = t ∧ microCmpWith (policyCurV policy) t = u ∧
    t.expectedCursor =
      (if policy = .incOnRxev then s.expectedCursor + 1 else s.expectedCursor) ∧
    (u.matchReg = ⟨true, true⟩ ↔ rx0 = t.expectedCursor ∧ rx1 = t.expectedCursor + 1) ∧
    u.expectedCursor =
      (match policy with
      | .hold => s.expectedCursor
      | .incOnMatch =>
        if u.matchReg = ⟨true, true⟩ then s.expectedCursor + 1 else s.expectedCursor
      | .incOnValidate => s.expectedCursor + 1
      | .incOnRxev => s.expectedCursor + 1)

/-! ### The driver boundary -/

/-- R160 to R168: each driver command appends itself with its payload to the trace and has the effect its
rule gives on the shadow bits, and on nothing else: `ARMTX`, `DISTX`, `ARMRX`, `DISRX` write one bit
each, the other four none. -/
def Obligations.DriverCommandsAppendAndWriteTheShadow : Prop :=
  ∀ s : State,
    (∀ b0 b1 b2 b3 : Byte, exec (.send b0 b1 b2 b3) s =
      .next { s with drvTrace := s.drvTrace ++ [.send b0 b1 b2 b3] }) ∧
    exec (.recv 2) s = .next { s with drvTrace := s.drvTrace ++ [.recv 2] } ∧
    exec .armtx s = .next { s with drvTrace := s.drvTrace ++ [.armtx], txIntArmed := true } ∧
    exec .distx s = .next { s with drvTrace := s.drvTrace ++ [.distx], txIntArmed := false } ∧
    exec .armrx s = .next { s with drvTrace := s.drvTrace ++ [.armrx], rxIntArmed := true } ∧
    exec .disrx s = .next { s with drvTrace := s.drvTrace ++ [.disrx], rxIntArmed := false } ∧
    exec .acktx s = .next { s with drvTrace := s.drvTrace ++ [.acktx] } ∧
    exec .ackrx s = .next { s with drvTrace := s.drvTrace ++ [.ackrx] }

/-- U4, R162 (note 7): `RECV` for a count other than 2, which the event does not guarantee to be staged, is
refused. -/
def Obligations.RecvOfAnotherCountIsRefused : Prop :=
  ∀ (s : State) (count : Word32), count ≠ 2#32 →
    exec (.recv count) s = .refused (.recvCountNotStaged count)

/-- R169: the driver commands each step appends to the trace, in order. -/
def Obligations.CommandsIssuedPerStep : Prop :=
  ∀ (i : Instr) (s t : State), isCommand i = false → i ≠ .reset → exec i s = .next t →
    t.drvTrace = s.drvTrace ++
      (match i with
      | .mlArm => [.armtx]
      | .mlRxdis => [.disrx]
      | .ml _ => if s.mlPhase = 2 then [.armtx] else if s.mlPhase = 8 then [.disrx] else []
      | .txev => [.send s.frame.value.b0 s.frame.value.b1 s.frame.value.b2 s.frame.value.b3,
          .armrx, .acktx, .distx]
      | .rxev _ _ => [.recv 2, .ackrx]
      | _ => [])

/-! ### Ownership -/

/-- R27, R28, R62: a flag changes in one direction per agent: `transmitReady` is cleared by `TXEV` and set by
the main loop in `TXRDY`; `receiveReady` is set by `RXEV` and cleared by the main loop in `RXCLR`. -/
def Obligations.FlagsHaveOneWriterPerDirection : Prop :=
  ∀ (i : Instr) (s t : State), i ≠ .reset → exec i s = .next t →
    (s.transmitReady = true → t.transmitReady = false → i = .txev) ∧
    (s.transmitReady = false → t.transmitReady = true → isMainLoop i = true ∧ s.mlPhase = 7) ∧
    (s.receiveReady = false → t.receiveReady = true → ∃ rx0 rx1 : Byte, i = .rxev rx0 rx1) ∧
    (s.receiveReady = true → t.receiveReady = false → isMainLoop i = true ∧ s.mlPhase = 4)

/-- R39, R25, R31 to R34: which agent may change each of the other registers. -/
def Obligations.RegistersHaveTheirOwners : Prop :=
  ∀ (i : Instr) (s t : State), i ≠ .reset → exec i s = .next t →
    (t.rxFrame ≠ s.rxFrame → ∃ rx0 rx1 : Byte, i = .rxev rx0 rx1) ∧
    (t.frame ≠ s.frame ∨ t.dataWord ≠ s.dataWord → isMainLoop i = true ∧ s.mlPhase = 0) ∧
    (t.errorCount ≠ s.errorCount → isMainLoop i = true ∧ s.mlPhase = 6) ∧
    (t.matchReg ≠ s.matchReg → isMainLoop i = true ∧ s.mlPhase = 5) ∧
    (t.mlPhase ≠ s.mlPhase → isMainLoop i = true) ∧
    (t.halted ≠ s.halted → i = .halt) ∧
    (t.expectedCursor ≠ s.expectedCursor →
      (isMainLoop i = true ∧ s.mlPhase = 5) ∨ ∃ rx0 rx1 : Byte, i = .rxev rx0 rx1) ∧
    (t.txIntArmed ≠ s.txIntArmed → (isMainLoop i = true ∧ s.mlPhase = 2) ∨ i = .txev ∨
      i = .armtx ∨ i = .distx) ∧
    (t.rxIntArmed ≠ s.rxIntArmed → (isMainLoop i = true ∧ s.mlPhase = 8) ∨ i = .txev ∨
      i = .armrx ∨ i = .disrx)

/-- R50, R9: every byte of the two buffers reads the same after any step but ML.BUILD (for the transmit
buffer), `RXEV` (for the receive buffer) and `RESET`; after those two the whole buffer is the new
value. -/
def Obligations.BufferBytesChangeOnlyByBuildAndRxev : Prop :=
  ∀ (i : Instr) (s t : State), i ≠ .reset → exec i s = .next t →
    (¬(isMainLoop i = true ∧ s.mlPhase = 0) → ∀ k : Fin 4, memRead t (.frame k) = memRead s (.frame k)) ∧
    ((∀ rx0 rx1 : Byte, i ≠ .rxev rx0 rx1) → ∀ k : Fin 2, memRead t (.rxbuf k) = memRead s (.rxbuf k)) ∧
    (∀ data : DataWord, i = .mlBuild data → ∀ k : Fin 4,
      memRead t (.frame k) = (frameOf data).byte k) ∧
    (∀ rx0 rx1 : Byte, i = .rxev rx0 rx1 →
      memRead t (.rxbuf 0) = rx0 ∧ memRead t (.rxbuf 1) = rx1)

/-! ### Invariants -/

/-- The reset state meets the invariant. -/
def Obligations.InvariantHoldsAtReset : Prop := Inv State.reset ∧ TraceInv State.reset

/-- R38, R214, R30: every step keeps the invariant: a legal phase, a Frame that is the Frame of `dataWord`,
buffers that hold a value when an armed line or a phase will read them, `matchReg` mirroring the
outcome. -/
def Obligations.StepKeepsTheInvariant : Prop :=
  ∀ s t : State, Inv s → step s = .next t → Inv t

/-- R214: "No reachable step reads a register that holds no value": in a state that meets the invariant a
step does not depend on the values of registers that nothing has written since reset. With other values
there it completes, or is refused, alike, and the states after it differ at most in such values again;
so nothing a run from reset does rests on the values the model names for them (note 2). In no state does
an operation or a step fault. -/
def Obligations.NoStepReadsAnUnwrittenRegister : Prop :=
  (∀ s s' : State, Inv s → SameButUnwritten s s' →
    (∀ t : State, step s = .next t → ∃ t' : State, step s' = .next t' ∧ SameButUnwritten t t') ∧
    (∀ r : Refusal, step s = .refused r → step s' = .refused r)) ∧
  (∀ (i : Instr) (s : State) (f : Fault), exec i s ≠ .fault f) ∧
  (∀ (s : State) (f : Fault), step s ≠ .fault f)

/-- R169, R33, R34: every step keeps the shape of the driver trace: whole command groups, an `ARMTX` before
every `SEND` and since the one before it, and shadow bits that are those the trace leaves. -/
def Obligations.StepKeepsTheTraceShape : Prop :=
  ∀ s t : State, TraceInv s → step s = .next t → TraceInv t

/-- R169: in the trace of every state that meets the trace shape the `ACKTX` are as many as the `SEND`s and
the `ACKRX` as many as the `RECV`s; and over any operations the machine performs one after the other,
`RESET` and a command performed alone apart, the trace gains one `SEND` and one `ACKTX` for each
transmit event and one `RECV` and one `ACKRX` for each receive event, and no other of these four. -/
def Obligations.GroupedTracesBalance : Prop :=
  (∀ s : State, TraceInv s →
    s.drvTrace.count .acktx = sendCount s.drvTrace ∧
    s.drvTrace.count .ackrx = recvCount s.drvTrace) ∧
  (∀ (ops : List Instr) (s t : State), (∀ i ∈ ops, isCommand i = false ∧ i ≠ .reset) →
    execAll ops s = .next t →
    sendCount t.drvTrace = sendCount s.drvTrace + txevCount ops ∧
    t.drvTrace.count .acktx = s.drvTrace.count .acktx + txevCount ops ∧
    recvCount t.drvTrace = recvCount s.drvTrace + rxevCount ops ∧
    t.drvTrace.count .ackrx = s.drvTrace.count .ackrx + rxevCount ops)

/-- R221, R111: the Frame a transmit event sends is the Frame of the DataWord of the latest ML.BUILD. -/
def Obligations.SentFrameIsTheLatestBuilt : Prop :=
  ∀ s : State, Inv s → s.halted = false → s.txIntArmed = true →
    ∃ t : State, exec .txev s = .next t ∧
      t.drvTrace = s.drvTrace ++
        [.send (s.dataWord.value.extractLsb' 16 8) (s.dataWord.value.extractLsb' 8 8)
          (s.dataWord.value.extractLsb' 0 8) (crc8 s.dataWord.value), .armrx, .acktx, .distx]

/-! ### Cycles and hazards -/

/-- R82, R121: an iteration with no handler step inside it takes between 3 and 8 `ML` steps, the number the
flags and the staged pair give, and is in no phase `BUILD` in between. -/
def Obligations.IterationLengthFromTheFlags : Prop :=
  ∀ (s : State) (data : DataWord) (n : Nat), s.halted = false → s.mlPhase = 0 →
    n = 2 + (if s.transmitReady = true then 1 else 0) +
      (if s.receiveReady = true then
        (if pairMatches s.expectedCursor s.rxFrame.value = true then 4 else 3) else 0) →
    (∃ t : State, execAll (iterRecords data n) s = .next t ∧ t.mlPhase = 0) ∧
    (∀ m : Nat, m < n → ∃ u : State, execAll (iterRecords data m) s = .next u ∧ u.mlPhase ≠ 0)

/-- R135 (P4): from an idle link with the transmit line armed, at the start of an iteration, a transmit event,
a receive event of the pair the comparison will expect (the cursor after the event's own update, R134) and
one iteration end with `transmitReady = 1`, `receiveReady = 0` and both lines disarmed. -/
def Obligations.FullCycleRestoresLinkState : Prop :=
  ∀ (s : State) (data : DataWord) (c : Byte), s.halted = false → s.mlPhase = 0 →
    s.txIntArmed = true → s.transmitReady = true → s.receiveReady = false →
    c = Config.curR s.expectedCursor →
    ∃ t : State, execAll (.txev :: .rxev c (c + 1) :: iterRecords data 6) s = .next t ∧
      t.transmitReady = true ∧ t.receiveReady = false ∧ t.txIntArmed = false ∧
      t.rxIntArmed = false ∧ t.mlPhase = 0 ∧ t.halted = false ∧ t.errorCount = s.errorCount

/-- R136 (P5): a transmit event, a receive event of another pair and one iteration end with `errorCount` one
higher, `transmitReady = 0`, `receiveReady = 0`, the receive line still armed, and no halt. -/
def Obligations.MismatchIsCountedAndBlocksTheLink : Prop :=
  ∀ (s : State) (data : DataWord) (a b c : Byte), s.halted = false → s.mlPhase = 0 →
    s.txIntArmed = true → c = Config.curR s.expectedCursor →
    ¬(a = c ∧ b = c + 1) →
    ∃ t : State, execAll (.txev :: .rxev a b :: iterRecords data 5) s = .next t ∧
      t.errorCount = s.errorCount + 1 ∧ t.transmitReady = false ∧ t.receiveReady = false ∧
      t.rxIntArmed = true ∧ t.halted = false ∧ t.mlPhase = 0

/-- R220: the stale-arm hazard: a transmit event between ML.ARMTEST and ML.ARM leaves the line armed again
with `transmitReady = 0`, and a second Frame can be sent with no receive event between. -/
def Obligations.StaleArmSendsASecondFrame : Prop :=
  ∀ (s : State) (d : DataWord), s.halted = false → s.mlPhase = 2 → s.txIntArmed = true →
    ∃ t u : State, execAll [.txev, .ml d] s = .next t ∧
      t.transmitReady = false ∧ t.txIntArmed = true ∧
      exec .txev t = .next u ∧
      u.drvTrace = s.drvTrace ++
        [.send s.frame.value.b0 s.frame.value.b1 s.frame.value.b2 s.frame.value.b3, .armrx, .acktx,
          .distx, .armtx,
          .send s.frame.value.b0 s.frame.value.b1 s.frame.value.b2 s.frame.value.b3, .armrx,
          .acktx, .distx]

/-- R222: a second receive event overwrites the pair (a); between ML.RXTEST and ML.RXCLR one clear serves
both events (b); between ML.RXCLR and ML.CMP the new pair is compared and `receiveReady` stays 1 (c), so the
next iteration compares the same pair a second time, with the cursor that the first comparison left: after
`n` further main-loop steps `matchReg` holds the outcome of that second comparison, and when both fail the
step after it has raised `errorCount` by 2 for one bad pair. -/
def Obligations.ReceiveEventsOverwriteAndMerge : Prop :=
  ∀ (s : State) (a b a' b' : Byte) (d : DataWord), s.halted = false → s.rxIntArmed = true →
    (∃ t : State, execAll [.rxev a b, .rxev a' b'] s = .next t ∧ t.rxFrame = ⟨⟨a', b'⟩, true⟩ ∧
      t.receiveReady = true) ∧
    (s.mlPhase = 4 → ∃ t : State, execAll [.rxev a b, .ml d] s = .next t ∧
      t.receiveReady = false ∧ t.rxFrame = ⟨⟨a, b⟩, true⟩ ∧ t.mlPhase = 5) ∧
    (s.mlPhase = 5 → ∃ t : State, execAll [.rxev a b, .ml d] s = .next t ∧
      t.receiveReady = true ∧ t.rxFrame = ⟨⟨a, b⟩, true⟩ ∧
      (t.mlPhase = 7 ↔ a = Config.curR s.expectedCursor ∧
        b = Config.curR s.expectedCursor + 1)) ∧
    (s.mlPhase = 5 → ∀ (first : Bool) (c c' : Byte) (n : Nat), c = Config.curR s.expectedCursor →
      (first = true ↔ a = c ∧ b = c + 1) → c' = Config.curV c first →
      n = (if first = true then 8 else if s.transmitReady = true then 7 else 6) →
      ∃ u : State,
        execAll (.rxev a b :: .ml d :: List.replicate n (.ml d)) s = .next u ∧
        u.rxFrame = ⟨⟨a, b⟩, true⟩ ∧ u.receiveReady = false ∧ u.matchReg.written = true ∧
        (u.matchReg.value = true ↔ a = c' ∧ b = c' + 1) ∧
        (first = false → u.matchReg.value = false →
          ∃ v : State, exec (.ml d) u = .next v ∧ v.errorCount = s.errorCount + 2))

/-- R223: a receive event between ML.TXRDY and ML.RXDIS leaves a staged pair and `receiveReady = 1` in the
Idle state with the receive line disarmed. -/
def Obligations.SurplusReceiveEventStaysStaged : Prop :=
  ∀ (s : State) (a b : Byte) (d : DataWord), s.halted = false → s.rxIntArmed = true →
    s.mlPhase = 7 →
    ∃ t : State, execAll [.ml d, .rxev a b, .ml d] s = .next t ∧
      t.isIdle = true ∧ t.isAwaitingValidation = true ∧ t.rxFrame = ⟨⟨a, b⟩, true⟩ ∧
      t.rxIntArmed = false ∧ t.mlPhase = 0

/-- R187: when both events are enabled both orders are admitted; they end in the same registers but for the
order of the trace. -/
def Obligations.BothEventOrdersAreAdmitted : Prop :=
  ∀ (s : State) (a b : Byte), s.halted = false → s.txIntArmed = true → s.rxIntArmed = true →
    ∃ t u : State, execAll [.txev, .rxev a b] s = .next t ∧
      execAll [.rxev a b, .txev] s = .next u ∧ u = { t with drvTrace := u.drvTrace } ∧
      t.drvTrace ≠ u.drvTrace

/-- R226 b, c and R67: with `transmitReady = 0` and nothing staged, the main loop alone, for any number of
steps, never changes the flags or the lines and issues no command; with the transmit line disarmed as well,
every step leaves the link stalled as it was, but for a receive event, `HALT` and `RESET`. The main loop
itself "never blocks in any of them": in a weakly fair infinite execution that is not halted, whatever
the environment presents or withholds, it comes back to the start of an iteration again and again. -/
def Obligations.StalledLinkStaysStalled : Prop :=
  (∀ (words : List DataWord) (s : State), Stalled s →
    ∃ t : State, execAll (words.map Instr.ml) s = .next t ∧
      t = { s with dataWord := t.dataWord, frame := t.frame, mlPhase := t.mlPhase } ∧ Stalled t) ∧
  (∀ (i : Instr) (s t : State), Stalled s → s.txIntArmed = false → isCommand i = false →
    exec i s = .next t →
    isRxev i = true ∨ i = .halt ∨ i = .reset ∨ (SameLink s t ∧ Stalled t)) ∧
  (∀ (records : Nat → Record) (run : Nat → State), IsExecution records run →
    WeaklyFair records run → (∀ n : Nat, (run n).halted = false) →
    ∀ n : Nat, ∃ m : Nat, n ≤ m ∧ (run m).mlPhase = Phase.build.code)
end

