-- ==== Sys2Proof/Laws/Decode.lean ====
section
/-! SUPPORT. The fields of a record and of an operand: reading a field of what was put together gives the
part, and putting the parts together gives the whole. -/

namespace Sys2Proof

@[simp] theorem recordCode_makeRecord (c : Nibble) (o : Word32) :
    recordCode (makeRecord c o) = c := BitVec.extractLsb'_append_eq_left (a := c) (b := o)

@[simp] theorem recordOpnd_makeRecord (c : Nibble) (o : Word32) :
    recordOpnd (makeRecord c o) = o := BitVec.extractLsb'_append_eq_right (a := c) (b := o)

theorem makeRecord_fields (r : Record) : makeRecord (recordCode r) (recordOpnd r) = r :=
  (BitVec.extractLsb'_append_extractLsb'_eq_extractLsb' (x := r) rfl).trans (by simp)

@[simp] theorem opndData_opndOfData (d : DataWord) (b : Byte) : opndData (opndOfData d b) = d :=
  BitVec.extractLsb'_append_eq_left (a := d) (b := b)

@[simp] theorem opndByte_opndOfData (d : DataWord) (b : Byte) : opndByte 0 (opndOfData d b) = b :=
  BitVec.extractLsb'_append_eq_right (a := d) (b := b)

theorem opndOfData_fields (o : Word32) : opndOfData (opndData o) (opndByte 0 o) = o :=
  (BitVec.extractLsb'_append_extractLsb'_eq_extractLsb' (x := o) rfl).trans (by simp)

/-- The two halves of an operand (form P). -/
theorem halves_append (o : Word32) : o.extractLsb' 16 16 ++ o.extractLsb' 0 16 = o :=
  (BitVec.extractLsb'_append_extractLsb'_eq_extractLsb' (x := o) rfl).trans (by simp)

@[simp] theorem highHalf_append (a b : Word16) : (a ++ b : Word32).extractLsb' 16 16 = a :=
  BitVec.extractLsb'_append_eq_left (a := a) (b := b)

@[simp] theorem lowHalf_append (a b : Word16) : (a ++ b : Word32).extractLsb' 0 16 = b :=
  BitVec.extractLsb'_append_eq_right (a := a) (b := b)

/-- The low two bytes of an operand (form R). -/
theorem lowBytes_append (o : Word32) : opndByte 1 o ++ opndByte 0 o = o.extractLsb' 0 16 :=
  BitVec.extractLsb'_append_extractLsb'_eq_extractLsb' (x := o) rfl

/-- Two bytes as a half. -/
theorem zero_append_bytes (a b : Byte) :
    (0#16 ++ a ++ b : Word32) = (0#16 ++ (a ++ b : Word16) : Word32) :=
  (BitVec.append_assoc (x₁ := 0#16) (x₂ := a) (x₃ := b)).trans (by simp)

/-- The four bytes of an operand, put together as `SEND` puts them. -/
theorem bytes_append (o : Word32) :
    opndByte 3 o ++ opndByte 2 o ++ opndByte 1 o ++ opndByte 0 o = o := by
  have h32 : opndByte 3 o ++ opndByte 2 o = o.extractLsb' 16 16 :=
    BitVec.extractLsb'_append_extractLsb'_eq_extractLsb' (x := o) rfl
  have h321 : (o.extractLsb' 16 16 : Word16) ++ opndByte 1 o = o.extractLsb' 8 24 :=
    BitVec.extractLsb'_append_extractLsb'_eq_extractLsb' (x := o) rfl
  rw [h32, h321]
  exact opndOfData_fields o

@[simp] theorem decodeRecord_mlRecord (d : DataWord) : decodeRecord (mlRecord d) = .ok (.ml d) := by
  simp [decodeRecord, mlRecord, decodeFormD]

end Sys2Proof
end

