-- ==== Sys2Proof/Laws/State.lean ====
section
/-! SUPPORT. The small lemmas of State: one per field per named update, each true by definition, so
that no later proof unfolds a record update. -/

namespace Sys2Proof.Machine

variable (s : State)

/-! ### `setPhase` -/

@[simp] theorem State.setPhase_dataWord (p : Phase) : (s.setPhase p).dataWord = s.dataWord := rfl
@[simp] theorem State.setPhase_frame (p : Phase) : (s.setPhase p).frame = s.frame := rfl
@[simp] theorem State.setPhase_rxFrame (p : Phase) : (s.setPhase p).rxFrame = s.rxFrame := rfl
@[simp] theorem State.setPhase_expectedCursor (p : Phase) : (s.setPhase p).expectedCursor = s.expectedCursor := rfl
@[simp] theorem State.setPhase_errorCount (p : Phase) : (s.setPhase p).errorCount = s.errorCount := rfl
@[simp] theorem State.setPhase_transmitReady (p : Phase) : (s.setPhase p).transmitReady = s.transmitReady := rfl
@[simp] theorem State.setPhase_receiveReady (p : Phase) : (s.setPhase p).receiveReady = s.receiveReady := rfl
@[simp] theorem State.setPhase_matchReg (p : Phase) : (s.setPhase p).matchReg = s.matchReg := rfl
@[simp] theorem State.setPhase_mlPhase (p : Phase) : (s.setPhase p).mlPhase = p.code := rfl
@[simp] theorem State.setPhase_halted (p : Phase) : (s.setPhase p).halted = s.halted := rfl
@[simp] theorem State.setPhase_txIntArmed (p : Phase) : (s.setPhase p).txIntArmed = s.txIntArmed := rfl
@[simp] theorem State.setPhase_rxIntArmed (p : Phase) : (s.setPhase p).rxIntArmed = s.rxIntArmed := rfl
@[simp] theorem State.setPhase_drvTrace (p : Phase) : (s.setPhase p).drvTrace = s.drvTrace := rfl
@[simp] theorem State.setPhase_stim (p : Phase) : (s.setPhase p).stim = s.stim := rfl
@[simp] theorem State.setPhase_result (p : Phase) : (s.setPhase p).result = s.result := rfl

/-! ### `loadFrame` -/

@[simp] theorem State.loadFrame_dataWord (d : DataWord) : (s.loadFrame d).dataWord = ⟨truncData d, true⟩ := rfl
@[simp] theorem State.loadFrame_frame (d : DataWord) : (s.loadFrame d).frame = ⟨frameOf (truncData d), true⟩ := rfl
@[simp] theorem State.loadFrame_rxFrame (d : DataWord) : (s.loadFrame d).rxFrame = s.rxFrame := rfl
@[simp] theorem State.loadFrame_expectedCursor (d : DataWord) : (s.loadFrame d).expectedCursor = s.expectedCursor := rfl
@[simp] theorem State.loadFrame_errorCount (d : DataWord) : (s.loadFrame d).errorCount = s.errorCount := rfl
@[simp] theorem State.loadFrame_transmitReady (d : DataWord) : (s.loadFrame d).transmitReady = s.transmitReady := rfl
@[simp] theorem State.loadFrame_receiveReady (d : DataWord) : (s.loadFrame d).receiveReady = s.receiveReady := rfl
@[simp] theorem State.loadFrame_matchReg (d : DataWord) : (s.loadFrame d).matchReg = s.matchReg := rfl
@[simp] theorem State.loadFrame_mlPhase (d : DataWord) : (s.loadFrame d).mlPhase = s.mlPhase := rfl
@[simp] theorem State.loadFrame_halted (d : DataWord) : (s.loadFrame d).halted = s.halted := rfl
@[simp] theorem State.loadFrame_txIntArmed (d : DataWord) : (s.loadFrame d).txIntArmed = s.txIntArmed := rfl
@[simp] theorem State.loadFrame_rxIntArmed (d : DataWord) : (s.loadFrame d).rxIntArmed = s.rxIntArmed := rfl
@[simp] theorem State.loadFrame_drvTrace (d : DataWord) : (s.loadFrame d).drvTrace = s.drvTrace := rfl
@[simp] theorem State.loadFrame_stim (d : DataWord) : (s.loadFrame d).stim = s.stim := rfl
@[simp] theorem State.loadFrame_result (d : DataWord) : (s.loadFrame d).result = s.result := rfl

/-! ### `stage` -/

@[simp] theorem State.stage_dataWord (a b : Byte) : (s.stage a b).dataWord = s.dataWord := rfl
@[simp] theorem State.stage_frame (a b : Byte) : (s.stage a b).frame = s.frame := rfl
@[simp] theorem State.stage_rxFrame (a b : Byte) : (s.stage a b).rxFrame = ⟨⟨a, b⟩, true⟩ := rfl
@[simp] theorem State.stage_expectedCursor (a b : Byte) : (s.stage a b).expectedCursor = s.expectedCursor := rfl
@[simp] theorem State.stage_errorCount (a b : Byte) : (s.stage a b).errorCount = s.errorCount := rfl
@[simp] theorem State.stage_transmitReady (a b : Byte) : (s.stage a b).transmitReady = s.transmitReady := rfl
@[simp] theorem State.stage_receiveReady (a b : Byte) : (s.stage a b).receiveReady = s.receiveReady := rfl
@[simp] theorem State.stage_matchReg (a b : Byte) : (s.stage a b).matchReg = s.matchReg := rfl
@[simp] theorem State.stage_mlPhase (a b : Byte) : (s.stage a b).mlPhase = s.mlPhase := rfl
@[simp] theorem State.stage_halted (a b : Byte) : (s.stage a b).halted = s.halted := rfl
@[simp] theorem State.stage_txIntArmed (a b : Byte) : (s.stage a b).txIntArmed = s.txIntArmed := rfl
@[simp] theorem State.stage_rxIntArmed (a b : Byte) : (s.stage a b).rxIntArmed = s.rxIntArmed := rfl
@[simp] theorem State.stage_drvTrace (a b : Byte) : (s.stage a b).drvTrace = s.drvTrace := rfl
@[simp] theorem State.stage_stim (a b : Byte) : (s.stage a b).stim = s.stim := rfl
@[simp] theorem State.stage_result (a b : Byte) : (s.stage a b).result = s.result := rfl

/-! ### `setCursor` -/

@[simp] theorem State.setCursor_dataWord (c : Byte) : (s.setCursor c).dataWord = s.dataWord := rfl
@[simp] theorem State.setCursor_frame (c : Byte) : (s.setCursor c).frame = s.frame := rfl
@[simp] theorem State.setCursor_rxFrame (c : Byte) : (s.setCursor c).rxFrame = s.rxFrame := rfl
@[simp] theorem State.setCursor_expectedCursor (c : Byte) : (s.setCursor c).expectedCursor = c := rfl
@[simp] theorem State.setCursor_errorCount (c : Byte) : (s.setCursor c).errorCount = s.errorCount := rfl
@[simp] theorem State.setCursor_transmitReady (c : Byte) : (s.setCursor c).transmitReady = s.transmitReady := rfl
@[simp] theorem State.setCursor_receiveReady (c : Byte) : (s.setCursor c).receiveReady = s.receiveReady := rfl
@[simp] theorem State.setCursor_matchReg (c : Byte) : (s.setCursor c).matchReg = s.matchReg := rfl
@[simp] theorem State.setCursor_mlPhase (c : Byte) : (s.setCursor c).mlPhase = s.mlPhase := rfl
@[simp] theorem State.setCursor_halted (c : Byte) : (s.setCursor c).halted = s.halted := rfl
@[simp] theorem State.setCursor_txIntArmed (c : Byte) : (s.setCursor c).txIntArmed = s.txIntArmed := rfl
@[simp] theorem State.setCursor_rxIntArmed (c : Byte) : (s.setCursor c).rxIntArmed = s.rxIntArmed := rfl
@[simp] theorem State.setCursor_drvTrace (c : Byte) : (s.setCursor c).drvTrace = s.drvTrace := rfl
@[simp] theorem State.setCursor_stim (c : Byte) : (s.setCursor c).stim = s.stim := rfl
@[simp] theorem State.setCursor_result (c : Byte) : (s.setCursor c).result = s.result := rfl

/-! ### `countError` -/

@[simp] theorem State.countError_dataWord : s.countError.dataWord = s.dataWord := rfl
@[simp] theorem State.countError_frame : s.countError.frame = s.frame := rfl
@[simp] theorem State.countError_rxFrame : s.countError.rxFrame = s.rxFrame := rfl
@[simp] theorem State.countError_expectedCursor : s.countError.expectedCursor = s.expectedCursor := rfl
@[simp] theorem State.countError_errorCount : s.countError.errorCount = s.errorCount + 1 := rfl
@[simp] theorem State.countError_transmitReady : s.countError.transmitReady = s.transmitReady := rfl
@[simp] theorem State.countError_receiveReady : s.countError.receiveReady = s.receiveReady := rfl
@[simp] theorem State.countError_matchReg : s.countError.matchReg = s.matchReg := rfl
@[simp] theorem State.countError_mlPhase : s.countError.mlPhase = s.mlPhase := rfl
@[simp] theorem State.countError_halted : s.countError.halted = s.halted := rfl
@[simp] theorem State.countError_txIntArmed : s.countError.txIntArmed = s.txIntArmed := rfl
@[simp] theorem State.countError_rxIntArmed : s.countError.rxIntArmed = s.rxIntArmed := rfl
@[simp] theorem State.countError_drvTrace : s.countError.drvTrace = s.drvTrace := rfl
@[simp] theorem State.countError_stim : s.countError.stim = s.stim := rfl
@[simp] theorem State.countError_result : s.countError.result = s.result := rfl

/-! ### `setTransmitReady` -/

@[simp] theorem State.setTransmitReady_dataWord (b : Bool) : (s.setTransmitReady b).dataWord = s.dataWord := rfl
@[simp] theorem State.setTransmitReady_frame (b : Bool) : (s.setTransmitReady b).frame = s.frame := rfl
@[simp] theorem State.setTransmitReady_rxFrame (b : Bool) : (s.setTransmitReady b).rxFrame = s.rxFrame := rfl
@[simp] theorem State.setTransmitReady_expectedCursor (b : Bool) : (s.setTransmitReady b).expectedCursor = s.expectedCursor := rfl
@[simp] theorem State.setTransmitReady_errorCount (b : Bool) : (s.setTransmitReady b).errorCount = s.errorCount := rfl
@[simp] theorem State.setTransmitReady_transmitReady (b : Bool) : (s.setTransmitReady b).transmitReady = b := rfl
@[simp] theorem State.setTransmitReady_receiveReady (b : Bool) : (s.setTransmitReady b).receiveReady = s.receiveReady := rfl
@[simp] theorem State.setTransmitReady_matchReg (b : Bool) : (s.setTransmitReady b).matchReg = s.matchReg := rfl
@[simp] theorem State.setTransmitReady_mlPhase (b : Bool) : (s.setTransmitReady b).mlPhase = s.mlPhase := rfl
@[simp] theorem State.setTransmitReady_halted (b : Bool) : (s.setTransmitReady b).halted = s.halted := rfl
@[simp] theorem State.setTransmitReady_txIntArmed (b : Bool) : (s.setTransmitReady b).txIntArmed = s.txIntArmed := rfl
@[simp] theorem State.setTransmitReady_rxIntArmed (b : Bool) : (s.setTransmitReady b).rxIntArmed = s.rxIntArmed := rfl
@[simp] theorem State.setTransmitReady_drvTrace (b : Bool) : (s.setTransmitReady b).drvTrace = s.drvTrace := rfl
@[simp] theorem State.setTransmitReady_stim (b : Bool) : (s.setTransmitReady b).stim = s.stim := rfl
@[simp] theorem State.setTransmitReady_result (b : Bool) : (s.setTransmitReady b).result = s.result := rfl

/-! ### `setReceiveReady` -/

@[simp] theorem State.setReceiveReady_dataWord (b : Bool) : (s.setReceiveReady b).dataWord = s.dataWord := rfl
@[simp] theorem State.setReceiveReady_frame (b : Bool) : (s.setReceiveReady b).frame = s.frame := rfl
@[simp] theorem State.setReceiveReady_rxFrame (b : Bool) : (s.setReceiveReady b).rxFrame = s.rxFrame := rfl
@[simp] theorem State.setReceiveReady_expectedCursor (b : Bool) : (s.setReceiveReady b).expectedCursor = s.expectedCursor := rfl
@[simp] theorem State.setReceiveReady_errorCount (b : Bool) : (s.setReceiveReady b).errorCount = s.errorCount := rfl
@[simp] theorem State.setReceiveReady_transmitReady (b : Bool) : (s.setReceiveReady b).transmitReady = s.transmitReady := rfl
@[simp] theorem State.setReceiveReady_receiveReady (b : Bool) : (s.setReceiveReady b).receiveReady = b := rfl
@[simp] theorem State.setReceiveReady_matchReg (b : Bool) : (s.setReceiveReady b).matchReg = s.matchReg := rfl
@[simp] theorem State.setReceiveReady_mlPhase (b : Bool) : (s.setReceiveReady b).mlPhase = s.mlPhase := rfl
@[simp] theorem State.setReceiveReady_halted (b : Bool) : (s.setReceiveReady b).halted = s.halted := rfl
@[simp] theorem State.setReceiveReady_txIntArmed (b : Bool) : (s.setReceiveReady b).txIntArmed = s.txIntArmed := rfl
@[simp] theorem State.setReceiveReady_rxIntArmed (b : Bool) : (s.setReceiveReady b).rxIntArmed = s.rxIntArmed := rfl
@[simp] theorem State.setReceiveReady_drvTrace (b : Bool) : (s.setReceiveReady b).drvTrace = s.drvTrace := rfl
@[simp] theorem State.setReceiveReady_stim (b : Bool) : (s.setReceiveReady b).stim = s.stim := rfl
@[simp] theorem State.setReceiveReady_result (b : Bool) : (s.setReceiveReady b).result = s.result := rfl

/-! ### `setMatch` -/

@[simp] theorem State.setMatch_dataWord (b : Bool) : (s.setMatch b).dataWord = s.dataWord := rfl
@[simp] theorem State.setMatch_frame (b : Bool) : (s.setMatch b).frame = s.frame := rfl
@[simp] theorem State.setMatch_rxFrame (b : Bool) : (s.setMatch b).rxFrame = s.rxFrame := rfl
@[simp] theorem State.setMatch_expectedCursor (b : Bool) : (s.setMatch b).expectedCursor = s.expectedCursor := rfl
@[simp] theorem State.setMatch_errorCount (b : Bool) : (s.setMatch b).errorCount = s.errorCount := rfl
@[simp] theorem State.setMatch_transmitReady (b : Bool) : (s.setMatch b).transmitReady = s.transmitReady := rfl
@[simp] theorem State.setMatch_receiveReady (b : Bool) : (s.setMatch b).receiveReady = s.receiveReady := rfl
@[simp] theorem State.setMatch_matchReg (b : Bool) : (s.setMatch b).matchReg = ⟨b, true⟩ := rfl
@[simp] theorem State.setMatch_mlPhase (b : Bool) : (s.setMatch b).mlPhase = s.mlPhase := rfl
@[simp] theorem State.setMatch_halted (b : Bool) : (s.setMatch b).halted = s.halted := rfl
@[simp] theorem State.setMatch_txIntArmed (b : Bool) : (s.setMatch b).txIntArmed = s.txIntArmed := rfl
@[simp] theorem State.setMatch_rxIntArmed (b : Bool) : (s.setMatch b).rxIntArmed = s.rxIntArmed := rfl
@[simp] theorem State.setMatch_drvTrace (b : Bool) : (s.setMatch b).drvTrace = s.drvTrace := rfl
@[simp] theorem State.setMatch_stim (b : Bool) : (s.setMatch b).stim = s.stim := rfl
@[simp] theorem State.setMatch_result (b : Bool) : (s.setMatch b).result = s.result := rfl

/-! ### `setHalted` -/

@[simp] theorem State.setHalted_dataWord : s.setHalted.dataWord = s.dataWord := rfl
@[simp] theorem State.setHalted_frame : s.setHalted.frame = s.frame := rfl
@[simp] theorem State.setHalted_rxFrame : s.setHalted.rxFrame = s.rxFrame := rfl
@[simp] theorem State.setHalted_expectedCursor : s.setHalted.expectedCursor = s.expectedCursor := rfl
@[simp] theorem State.setHalted_errorCount : s.setHalted.errorCount = s.errorCount := rfl
@[simp] theorem State.setHalted_transmitReady : s.setHalted.transmitReady = s.transmitReady := rfl
@[simp] theorem State.setHalted_receiveReady : s.setHalted.receiveReady = s.receiveReady := rfl
@[simp] theorem State.setHalted_matchReg : s.setHalted.matchReg = s.matchReg := rfl
@[simp] theorem State.setHalted_mlPhase : s.setHalted.mlPhase = s.mlPhase := rfl
@[simp] theorem State.setHalted_halted : s.setHalted.halted = true := rfl
@[simp] theorem State.setHalted_txIntArmed : s.setHalted.txIntArmed = s.txIntArmed := rfl
@[simp] theorem State.setHalted_rxIntArmed : s.setHalted.rxIntArmed = s.rxIntArmed := rfl
@[simp] theorem State.setHalted_drvTrace : s.setHalted.drvTrace = s.drvTrace := rfl
@[simp] theorem State.setHalted_stim : s.setHalted.stim = s.stim := rfl
@[simp] theorem State.setHalted_result : s.setHalted.result = s.result := rfl

/-! ### `returns` -/

@[simp] theorem State.returns_dataWord (r : StepResult) : (s.returns r).dataWord = s.dataWord := rfl
@[simp] theorem State.returns_frame (r : StepResult) : (s.returns r).frame = s.frame := rfl
@[simp] theorem State.returns_rxFrame (r : StepResult) : (s.returns r).rxFrame = s.rxFrame := rfl
@[simp] theorem State.returns_expectedCursor (r : StepResult) : (s.returns r).expectedCursor = s.expectedCursor := rfl
@[simp] theorem State.returns_errorCount (r : StepResult) : (s.returns r).errorCount = s.errorCount := rfl
@[simp] theorem State.returns_transmitReady (r : StepResult) : (s.returns r).transmitReady = s.transmitReady := rfl
@[simp] theorem State.returns_receiveReady (r : StepResult) : (s.returns r).receiveReady = s.receiveReady := rfl
@[simp] theorem State.returns_matchReg (r : StepResult) : (s.returns r).matchReg = s.matchReg := rfl
@[simp] theorem State.returns_mlPhase (r : StepResult) : (s.returns r).mlPhase = s.mlPhase := rfl
@[simp] theorem State.returns_halted (r : StepResult) : (s.returns r).halted = s.halted := rfl
@[simp] theorem State.returns_txIntArmed (r : StepResult) : (s.returns r).txIntArmed = s.txIntArmed := rfl
@[simp] theorem State.returns_rxIntArmed (r : StepResult) : (s.returns r).rxIntArmed = s.rxIntArmed := rfl
@[simp] theorem State.returns_drvTrace (r : StepResult) : (s.returns r).drvTrace = s.drvTrace := rfl
@[simp] theorem State.returns_stim (r : StepResult) : (s.returns r).stim = s.stim := rfl
@[simp] theorem State.returns_result (r : StepResult) : (s.returns r).result = r := rfl

/-! ### `drv` -/

@[simp] theorem State.drv_dataWord (c : DrvCmd) : (s.drv c).dataWord = s.dataWord := rfl
@[simp] theorem State.drv_frame (c : DrvCmd) : (s.drv c).frame = s.frame := rfl
@[simp] theorem State.drv_rxFrame (c : DrvCmd) : (s.drv c).rxFrame = s.rxFrame := rfl
@[simp] theorem State.drv_expectedCursor (c : DrvCmd) : (s.drv c).expectedCursor = s.expectedCursor := rfl
@[simp] theorem State.drv_errorCount (c : DrvCmd) : (s.drv c).errorCount = s.errorCount := rfl
@[simp] theorem State.drv_transmitReady (c : DrvCmd) : (s.drv c).transmitReady = s.transmitReady := rfl
@[simp] theorem State.drv_receiveReady (c : DrvCmd) : (s.drv c).receiveReady = s.receiveReady := rfl
@[simp] theorem State.drv_matchReg (c : DrvCmd) : (s.drv c).matchReg = s.matchReg := rfl
@[simp] theorem State.drv_mlPhase (c : DrvCmd) : (s.drv c).mlPhase = s.mlPhase := rfl
@[simp] theorem State.drv_halted (c : DrvCmd) : (s.drv c).halted = s.halted := rfl
@[simp] theorem State.drv_txIntArmed (c : DrvCmd) : (s.drv c).txIntArmed = shadowTx c s.txIntArmed := rfl
@[simp] theorem State.drv_rxIntArmed (c : DrvCmd) : (s.drv c).rxIntArmed = shadowRx c s.rxIntArmed := rfl
@[simp] theorem State.drv_drvTrace (c : DrvCmd) : (s.drv c).drvTrace = s.drvTrace ++ [c] := rfl
@[simp] theorem State.drv_stim (c : DrvCmd) : (s.drv c).stim = s.stim := rfl
@[simp] theorem State.drv_result (c : DrvCmd) : (s.drv c).result = s.result := rfl

/-! ### `take` -/

@[simp] theorem State.take_dataWord (l : List Record) : (s.take l).dataWord = s.dataWord := rfl
@[simp] theorem State.take_frame (l : List Record) : (s.take l).frame = s.frame := rfl
@[simp] theorem State.take_rxFrame (l : List Record) : (s.take l).rxFrame = s.rxFrame := rfl
@[simp] theorem State.take_expectedCursor (l : List Record) : (s.take l).expectedCursor = s.expectedCursor := rfl
@[simp] theorem State.take_errorCount (l : List Record) : (s.take l).errorCount = s.errorCount := rfl
@[simp] theorem State.take_transmitReady (l : List Record) : (s.take l).transmitReady = s.transmitReady := rfl
@[simp] theorem State.take_receiveReady (l : List Record) : (s.take l).receiveReady = s.receiveReady := rfl
@[simp] theorem State.take_matchReg (l : List Record) : (s.take l).matchReg = s.matchReg := rfl
@[simp] theorem State.take_mlPhase (l : List Record) : (s.take l).mlPhase = s.mlPhase := rfl
@[simp] theorem State.take_halted (l : List Record) : (s.take l).halted = s.halted := rfl
@[simp] theorem State.take_txIntArmed (l : List Record) : (s.take l).txIntArmed = s.txIntArmed := rfl
@[simp] theorem State.take_rxIntArmed (l : List Record) : (s.take l).rxIntArmed = s.rxIntArmed := rfl
@[simp] theorem State.take_drvTrace (l : List Record) : (s.take l).drvTrace = s.drvTrace := rfl
@[simp] theorem State.take_stim (l : List Record) : (s.take l).stim = l := rfl
@[simp] theorem State.take_result (l : List Record) : (s.take l).result = .none := rfl

/-! ### `toReset`: the reset values (R40, R211) -/

@[simp] theorem State.toReset_dataWord : s.toReset.dataWord = ⟨0, false⟩ := rfl
@[simp] theorem State.toReset_frame : s.toReset.frame = ⟨⟨0, 0, 0, 0⟩, false⟩ := rfl
@[simp] theorem State.toReset_rxFrame : s.toReset.rxFrame = ⟨⟨0, 0⟩, false⟩ := rfl
@[simp] theorem State.toReset_expectedCursor : s.toReset.expectedCursor = Config.cursorInit := rfl
@[simp] theorem State.toReset_errorCount : s.toReset.errorCount = 0 := rfl
@[simp] theorem State.toReset_transmitReady : s.toReset.transmitReady = true := rfl
@[simp] theorem State.toReset_receiveReady : s.toReset.receiveReady = false := rfl
@[simp] theorem State.toReset_matchReg : s.toReset.matchReg = ⟨false, false⟩ := rfl
@[simp] theorem State.toReset_mlPhase : s.toReset.mlPhase = 0 := rfl
@[simp] theorem State.toReset_halted : s.toReset.halted = false := rfl
@[simp] theorem State.toReset_txIntArmed : s.toReset.txIntArmed = false := rfl
@[simp] theorem State.toReset_rxIntArmed : s.toReset.rxIntArmed = false := rfl
@[simp] theorem State.toReset_drvTrace : s.toReset.drvTrace = [] := rfl
@[simp] theorem State.toReset_stim : s.toReset.stim = s.stim := rfl
@[simp] theorem State.toReset_result : s.toReset.result = s.result := rfl

/-! ### The reset state itself -/

@[simp] theorem State.reset_dataWord : State.reset.dataWord = ⟨0, false⟩ := rfl
@[simp] theorem State.reset_frame : State.reset.frame = ⟨⟨0, 0, 0, 0⟩, false⟩ := rfl
@[simp] theorem State.reset_rxFrame : State.reset.rxFrame = ⟨⟨0, 0⟩, false⟩ := rfl
@[simp] theorem State.reset_expectedCursor : State.reset.expectedCursor = Config.cursorInit := rfl
@[simp] theorem State.reset_errorCount : State.reset.errorCount = 0 := rfl
@[simp] theorem State.reset_transmitReady : State.reset.transmitReady = true := rfl
@[simp] theorem State.reset_receiveReady : State.reset.receiveReady = false := rfl
@[simp] theorem State.reset_matchReg : State.reset.matchReg = ⟨false, false⟩ := rfl
@[simp] theorem State.reset_mlPhase : State.reset.mlPhase = 0 := rfl
@[simp] theorem State.reset_halted : State.reset.halted = false := rfl
@[simp] theorem State.reset_txIntArmed : State.reset.txIntArmed = false := rfl
@[simp] theorem State.reset_rxIntArmed : State.reset.rxIntArmed = false := rfl
@[simp] theorem State.reset_drvTrace : State.reset.drvTrace = [] := rfl
@[simp] theorem State.reset_stim : State.reset.stim = [] := rfl
@[simp] theorem State.reset_result : State.reset.result = .none := rfl

end Sys2Proof.Machine
end

