-- ==== Sys2Proof/Laws/Ops.lean ====
section
/-! SUPPORT. One lemma per shared operation that says everything it can do: the guards, event entry,
the failures, the handlers and ML.CMP. -/

namespace Sys2Proof.Machine

variable {s t : State} {k : Out}

/-- A guarded step goes on only while the block runs, and then as the step itself. -/
theorem whenRunning_next : whenRunning s k = .next t ↔ s.halted = false ∧ k = .next t := by
  unfold whenRunning; cases s.halted <;> simp

theorem whenRunning_running (h : s.halted = false) : whenRunning s k = k := by
  simp [whenRunning, h]

theorem whenRunning_halted (h : s.halted = true) : whenRunning s k = .refused .halted := by
  simp [whenRunning, h]

/-- A micro-operation goes on only in its own phase. -/
theorem whenSelected_next {p : Phase} :
    whenSelected p s k = .next t ↔ s.halted = false ∧ s.mlPhase = p.code ∧ k = .next t := by
  unfold whenSelected
  rw [whenRunning_next]
  by_cases h : s.mlPhase = p.code <;> simp [h]

theorem whenSelected_selected {p : Phase} (h : s.halted = false) (hp : s.mlPhase = p.code) :
    whenSelected p s k = k := by
  simp [whenSelected, whenRunning_running h, hp]

/-- An event is taken only while the block runs and its line is armed (R58 c, d); its next state is the
handler's (R188, R189). -/
theorem takeEvent_next {armed : Bool} {r : Refusal} {handler : State → State} :
    takeEvent armed r handler s = .next t ↔
      s.halted = false ∧ armed = true ∧ handler s = t := by
  unfold takeEvent
  rw [whenRunning_next]
  cases armed <;> simp

/-- `Mismatch` writes `matchReg` and `mlPhase` and nothing else (R181). -/
theorem raiseFailure_mismatch :
    raiseFailure .mismatch s = { s with matchReg := ⟨false, true⟩, mlPhase := Phase.errinc.code } :=
  rfl

/-- `FatalHalt` writes `halted` and nothing else (R182). -/
theorem raiseFailure_fatalHalt : raiseFailure .fatalHalt s = { s with halted := true } := rfl

/-- Everything the transmit-completion handler does (R131). -/
theorem txHandler_eq :
    txHandler s = { s with
      transmitReady := false, txIntArmed := false, rxIntArmed := true
      drvTrace := s.drvTrace ++ [.send s.frame.value.b0 s.frame.value.b1 s.frame.value.b2
        s.frame.value.b3, .armrx, .acktx, .distx] } := by
  simp [txHandler, State.drv, State.setTransmitReady, shadowTx, shadowRx]

/-- Everything the receive-completion handler does (R132). -/
theorem rxHandlerWith_eq {curR : Byte → Byte} {a b : Byte} :
    rxHandlerWith curR a b s = { s with
      rxFrame := ⟨⟨a, b⟩, true⟩, receiveReady := true
      expectedCursor := curR s.expectedCursor
      drvTrace := s.drvTrace ++ [.recv 2, .ackrx] } := by
  simp [rxHandlerWith, State.drv, State.stage, State.setReceiveReady, State.setCursor, shadowTx,
    shadowRx]

/-- Everything ML.CMP does (R127). -/
theorem microCmpWith_eq {curV : Byte → Bool → Byte} :
    microCmpWith curV s = { s with
      expectedCursor := curV s.expectedCursor (pairMatches s.expectedCursor s.rxFrame.value)
      matchReg := ⟨pairMatches s.expectedCursor s.rxFrame.value, true⟩
      mlPhase := if pairMatches s.expectedCursor s.rxFrame.value then Phase.txrdy.code
        else Phase.errinc.code } := by
  unfold microCmpWith
  cases pairMatches s.expectedCursor s.rxFrame.value <;>
    simp [raiseFailure, State.setCursor, State.setMatch, State.setPhase]

/-- What the environment's next presentation can be (R75, R80 a, R83). -/
theorem fetch_cases (s : State) :
    (s.stim = [] ∧ fetch s = .idle) ∨
    (∃ r rest i, s.stim = r :: rest ∧ decodeRecord r = .ok i ∧ fetch s = .issue i (s.take rest)) ∨
    (∃ r rest e, s.stim = r :: rest ∧ decodeRecord r = .error e ∧ fetch s = .reserved e) := by
  unfold fetch
  cases h : s.stim with
  | nil => simp
  | cons r rest => cases hd : decodeRecord r <;> simp [hd]

/-- Everything a step can do. -/
theorem step_next (h : step s = .next t) :
    (s.stim = [] ∧ t = s) ∨
    ∃ r rest i, s.stim = r :: rest ∧ decodeRecord r = .ok i ∧ exec i (s.take rest) = .next t := by
  rcases fetch_cases s with ⟨h0, hf⟩ | ⟨r, rest, i, h0, hd, hf⟩ | ⟨r, rest, e, h0, hd, hf⟩
  · left; simp [step, hf] at h; exact ⟨h0, h.symm⟩
  · right; simp [step, hf] at h; exact ⟨r, rest, i, h0, hd, h⟩
  · simp [step, hf] at h

end Sys2Proof.Machine
end

