-- ==== Sys2Proof/Laws/PerInstr.lean ====
section
/-! SUPPORT. The family `TableRow`: the encoding of every well-formed instruction carries the fixed
bits its row of spec/opcode_table.json gives (its "match" under its "mask"). One lemma per
constructor of `Instr`. -/

namespace Sys2Proof.Laws

/-- The word of an encoding that its table row numbers. -/
def tableWord : Encoding → Record
  | .record r => r
  | .phase code _ => code.setWidth 36
  | .command c => c

/-- The row's "mask" and "match" of spec/opcode_table.json. -/
def tableRow : Instr → Record × Record
  | .crc8 _ => (0xF000000FF, 0x100000000)
  | .crcchk _ _ => (0xF00000000, 0x200000000)
  | .frame _ => (0xF000000FF, 0x300000000)
  | .ml _ => (0xF000000FF, 0x400000000)
  | .txev => (0xFFFFFFFFF, 0x500000000)
  | .rxev _ _ => (0xFFFFF0000, 0x600000000)
  | .halt => (0xFFFFFFFFF, 0x700000000)
  | .pack12 _ _ => (0xF00000000, 0x800000000)
  | .reset => (0xFFFFFFFFF, 0xF00000000)
  | .mlBuild _ => (0xF, 0x0)
  | .mlArmtest => (0xF, 0x1)
  | .mlArm => (0xF, 0x2)
  | .mlRxtest => (0xF, 0x3)
  | .mlRxclr => (0xF, 0x4)
  | .mlCmp => (0xF, 0x5)
  | .mlErrinc => (0xF, 0x6)
  | .mlTxrdy => (0xF, 0x7)
  | .mlRxdis => (0xF, 0x8)
  | .send _ _ _ _ => (0xF00000000, 0x100000000)
  | .recv _ => (0xFFFFFFFFF, 0x200000002)
  | .armtx => (0xFFFFFFFFF, 0x300000000)
  | .distx => (0xFFFFFFFFF, 0x400000000)
  | .armrx => (0xFFFFFFFFF, 0x500000000)
  | .disrx => (0xFFFFFFFFF, 0x600000000)
  | .acktx => (0xFFFFFFFFF, 0x700000000)
  | .ackrx => (0xFFFFFFFFF, 0x800000000)

/-- The encoding of a well-formed instruction carries its row's fixed bits. -/
def TableRow.Statement (i : Instr) : Prop :=
  i.WellFormed → tableWord (encode i) &&& (tableRow i).1 = (tableRow i).2

/-- A record under a mask of its code field alone. -/
theorem makeRecord_mask_code (c : Nibble) (o : Word32) :
    makeRecord c o &&& 0xF00000000#36 = c ++ 0#32 := by
  rw [show (0xF00000000#36 : Record) = (0xF#4 : BitVec 4) ++ (0#32 : BitVec 32) from rfl,
    makeRecord, BitVec.and_append]
  congr 1
  · exact BitVec.and_allOnes
  · exact BitVec.and_zero

/-- A form D record under a mask of its code field and its must-be-0 byte. -/
theorem makeRecord_mask_formD (c : Nibble) (d : DataWord) :
    makeRecord c (opndOfData d 0) &&& 0xF000000FF#36 = c ++ 0#32 := by
  rw [show (0xF000000FF#36 : Record) = (0xF#4 : BitVec 4) ++ ((0#24 : BitVec 24) ++ (0xFF#8 : BitVec 8)) from rfl,
    makeRecord, opndOfData, BitVec.and_append, BitVec.and_append]
  congr 1
  · exact BitVec.and_allOnes
  · rw [BitVec.and_zero]; rfl

/-- A form R record under a mask of its code field and its must-be-0 half. -/
theorem makeRecord_mask_formR (c : Nibble) (a b : Byte) :
    makeRecord c (0#16 ++ a ++ b) &&& 0xFFFFF0000#36 = c ++ 0#32 := by
  rw [show (0xFFFFF0000#36 : Record) =
      (0xF#4 : BitVec 4) ++ (((0xFFFF#16 : BitVec 16) ++ (0#8 : BitVec 8)) ++ (0#8 : BitVec 8)) from rfl,
    makeRecord, BitVec.and_append, BitVec.and_append, BitVec.and_append]
  congr 1
  · exact BitVec.and_allOnes
  · rw [BitVec.and_zero, BitVec.and_zero]; rfl

namespace TableRow

theorem crc8 (d : DataWord) : Statement (.crc8 d) := fun _ => makeRecord_mask_formD 0x1 d
theorem crcchk (d : DataWord) (c : Byte) : Statement (.crcchk d c) := fun _ => makeRecord_mask_code 0x2 _
theorem frame (d : DataWord) : Statement (.frame d) := fun _ => makeRecord_mask_formD 0x3 d
theorem ml (d : DataWord) : Statement (.ml d) := fun _ => makeRecord_mask_formD 0x4 d
theorem txev : Statement .txev := fun _ => rfl
theorem rxev (a b : Byte) : Statement (.rxev a b) := fun _ => makeRecord_mask_formR 0x6 a b
theorem halt : Statement .halt := fun _ => rfl
theorem pack12 (a b : Word16) : Statement (.pack12 a b) := fun _ => makeRecord_mask_code 0x8 _
theorem reset : Statement .reset := fun _ => rfl
theorem mlBuild (d : DataWord) : Statement (.mlBuild d) := fun _ => by
  simp [tableWord, encode, tableRow, Phase.code]
theorem mlArmtest : Statement .mlArmtest := fun _ => rfl
theorem mlArm : Statement .mlArm := fun _ => rfl
theorem mlRxtest : Statement .mlRxtest := fun _ => rfl
theorem mlRxclr : Statement .mlRxclr := fun _ => rfl
theorem mlCmp : Statement .mlCmp := fun _ => rfl
theorem mlErrinc : Statement .mlErrinc := fun _ => rfl
theorem mlTxrdy : Statement .mlTxrdy := fun _ => rfl
theorem mlRxdis : Statement .mlRxdis := fun _ => rfl
theorem send (b0 b1 b2 b3 : Byte) : Statement (.send b0 b1 b2 b3) := fun _ => makeRecord_mask_code 0x1 _
theorem recv (n : Word32) : Statement (.recv n) := fun h => by
  have hn : n = 2#32 := by simpa [Instr.WellFormed, Instr.recvCountOk] using h
  subst hn; rfl
theorem armtx : Statement .armtx := fun _ => rfl
theorem distx : Statement .distx := fun _ => rfl
theorem armrx : Statement .armrx := fun _ => rfl
theorem disrx : Statement .disrx := fun _ => rfl
theorem acktx : Statement .acktx := fun _ => rfl
theorem ackrx : Statement .ackrx := fun _ => rfl

end TableRow

end Sys2Proof.Laws
end

