-- ==== Sys2Proof/Laws/Steps.lean ====
section
/-! SUPPORT. What a main-loop step can do, said once: the micro-operation of a phase as one record update,
and every main-loop operation as the micro-operation of the phase it is performed in. -/

namespace Sys2Proof.Machine

variable {s t : State}

/-- The mask of R73 keeps a 24-bit value. -/
@[simp] theorem truncData_eq (data : DataWord) : truncData data = data := BitVec.and_allOnes

/-- A phase is named by its code. -/
@[simp] theorem phaseOf_code (p : Phase) : phaseOf p.code = some p := by cases p <;> rfl

/-- A code that names a phase is that phase's code. -/
theorem code_of_phaseOf {code : Nibble} {p : Phase} (h : phaseOf code = some p) : code = p.code := by
  have all : ∀ c : Nibble, ∀ q ∈ phaseOf c, c = q.code := by decide
  exact all code p h

/-- A legal code names a phase (R38 b). -/
theorem exists_phase_of_legal {code : Nibble} (h : code.toNat ≤ 8) : ∃ p : Phase, code = p.code := by
  have all : ∀ c : Nibble, c.toNat ≤ 8 → (phaseOf c).isSome = true := by decide
  obtain ⟨p, hp⟩ := Option.isSome_iff_exists.1 (all code h)
  exact ⟨p, code_of_phaseOf hp⟩

/-- Everything the micro-operation of a phase does (R122 to R130). -/
theorem microOp_eq (p : Phase) (data : DataWord) :
    microOp p data s = match p with
    | .build => { s with dataWord := ⟨data, true⟩, frame := ⟨frameOf data, true⟩, mlPhase := 1 }
    | .armtest => { s with mlPhase := if s.transmitReady then 2 else 3 }
    | .arm => { s with mlPhase := 3, txIntArmed := true, drvTrace := s.drvTrace ++ [.armtx] }
    | .rxtest => { s with mlPhase := if s.receiveReady then 4 else 0 }
    | .rxclr => { s with mlPhase := 5, receiveReady := false }
    | .cmp => { s with
        expectedCursor := Config.curV s.expectedCursor (pairMatches s.expectedCursor s.rxFrame.value)
        matchReg := ⟨pairMatches s.expectedCursor s.rxFrame.value, true⟩
        mlPhase := if pairMatches s.expectedCursor s.rxFrame.value then 7 else 6 }
    | .errinc => { s with mlPhase := 0, errorCount := s.errorCount + 1 }
    | .txrdy => { s with mlPhase := 8, transmitReady := true }
    | .rxdis => { s with
        mlPhase := 0, rxIntArmed := false, drvTrace := s.drvTrace ++ [.disrx] } := by
  cases p
  case cmp => exact microCmpWith_eq
  case armtest => simp only [microOp, microArmtest]; split <;> rfl
  case rxtest => simp only [microOp, microRxtest]; split <;> rfl
  case build => simp [microOp, microBuild, State.loadFrame, State.setPhase]; rfl
  all_goals rfl

/-- A main-loop operation that goes on is the micro-operation of the phase it is performed in, in a
block that runs (R58 a, R77, R121). -/
theorem mainLoop_next {i : Instr} (hm : isMainLoop i = true) (h : exec i s = .next t) :
    s.halted = false ∧ ∃ p data, s.mlPhase = p.code ∧ (i = .ml data ∨ i = p.instr data) ∧
      t = microOp p data s := by
  cases i <;> simp [isMainLoop] at hm <;> simp only [exec] at h
  case ml data =>
    rw [execMl, whenRunning_next] at h
    refine ⟨h.1, ?_⟩
    have h := h.2
    split at h
    · rename_i p hp
      exact ⟨p, data, code_of_phaseOf hp, .inl rfl, (Host.Outcome.next.inj h).symm⟩
    · contradiction
  case mlBuild data =>
    obtain ⟨hr, hp, hk⟩ := whenSelected_next.1 h
    exact ⟨hr, .build, data, hp, .inr rfl, (Host.Outcome.next.inj hk).symm⟩
  case mlArmtest =>
    obtain ⟨hr, hp, hk⟩ := whenSelected_next.1 h
    exact ⟨hr, .armtest, 0, hp, .inr rfl, (Host.Outcome.next.inj hk).symm⟩
  case mlArm =>
    obtain ⟨hr, hp, hk⟩ := whenSelected_next.1 h
    exact ⟨hr, .arm, 0, hp, .inr rfl, (Host.Outcome.next.inj hk).symm⟩
  case mlRxtest =>
    obtain ⟨hr, hp, hk⟩ := whenSelected_next.1 h
    exact ⟨hr, .rxtest, 0, hp, .inr rfl, (Host.Outcome.next.inj hk).symm⟩
  case mlRxclr =>
    obtain ⟨hr, hp, hk⟩ := whenSelected_next.1 h
    exact ⟨hr, .rxclr, 0, hp, .inr rfl, (Host.Outcome.next.inj hk).symm⟩
  case mlCmp =>
    obtain ⟨hr, hp, hk⟩ := whenSelected_next.1 h
    exact ⟨hr, .cmp, 0, hp, .inr rfl, (Host.Outcome.next.inj hk).symm⟩
  case mlErrinc =>
    obtain ⟨hr, hp, hk⟩ := whenSelected_next.1 h
    exact ⟨hr, .errinc, 0, hp, .inr rfl, (Host.Outcome.next.inj hk).symm⟩
  case mlTxrdy =>
    obtain ⟨hr, hp, hk⟩ := whenSelected_next.1 h
    exact ⟨hr, .txrdy, 0, hp, .inr rfl, (Host.Outcome.next.inj hk).symm⟩
  case mlRxdis =>
    obtain ⟨hr, hp, hk⟩ := whenSelected_next.1 h
    exact ⟨hr, .rxdis, 0, hp, .inr rfl, (Host.Outcome.next.inj hk).symm⟩

/-- A step at which a record is presented performs what the record decodes to (R79), in the state with
the output of the step before cleared. -/
theorem step_present_next {r : Record} (h : step (s.present (.record r)) = .next t) :
    ∃ i, decodeRecord r = .ok i ∧ exec i { s with result := .none } = .next t := by
  rcases step_next h with ⟨h0, _⟩ | ⟨r', rest, i, h0, hd, he⟩
  · simp [State.present] at h0
  · simp [State.present] at h0
    obtain ⟨rfl, rfl⟩ := h0
    exact ⟨i, hd, he⟩

/-- The counts of R169 add up over a trace in two parts. -/
@[simp] theorem sendCount_append (a b : List DrvCmd) :
    sendCount (a ++ b) = sendCount a + sendCount b := by simp [sendCount]

@[simp] theorem recvCount_append (a b : List DrvCmd) :
    recvCount (a ++ b) = recvCount a + recvCount b := by simp [recvCount]

/-- Operations performed one after the other: the first goes on, and then the rest. -/
theorem execAll_cons_next {i : Instr} {ops : List Instr} :
    execAll (i :: ops) s = .next t ↔ ∃ u, exec i s = .next u ∧ execAll ops u = .next t := by
  rw [execAll]
  cases exec i s <;> simp

end Sys2Proof.Machine
end

