-- ==== Sys2Proof/Tests/Slice0.lean ====
section
/-! SUPPORT. Small tests, their expected results taken from spec/95_test_vectors.md (T10 to T52), and one
witness for every statement that has hypotheses: a concrete state and operands that meet all of
them together, at the boundary values of a clause where it has a range. -/

namespace Sys2Proof.Tests

open Sys2Proof Sys2Proof.Machine

/-! ### Helpers -/

/-- A running block in a phase, with everything written and both lines armed: the Frame of `0x978536`
(T6), the pair `10 11` and the cursor `10`. -/
def busy (code : Nibble) : State :=
  { State.reset with
    dataWord := ⟨0x978536, true⟩
    frame := ⟨⟨0x97, 0x85, 0x36, 0x31⟩, true⟩
    rxFrame := ⟨⟨0x10, 0x11⟩, true⟩
    expectedCursor := 0x10
    receiveReady := true
    matchReg := ⟨code != 6, true⟩
    mlPhase := code
    txIntArmed := true
    rxIntArmed := true }

/-- A freshly reset block forced into a phase. -/
def fresh (code : Nibble) : State := { State.reset with mlPhase := code }

/-- A blocked link with the Frame of 0, in a phase. -/
def blocked (code : Nibble) : State :=
  { State.reset with
    dataWord := ⟨truncData 0, true⟩
    frame := ⟨frameOf (truncData 0), true⟩
    transmitReady := false
    mlPhase := code }

/-- The halted block. -/
def stopped : State := { busy 5 with halted := true }

/-- The outcome is a next state, and the state has the property. -/
def goesTo (o : Out) (p : State → Bool) : Bool :=
  match o with
  | .next t => p t
  | .fault _ => false
  | .refused _ => false

/-- The decoder reads this instruction. -/
def decodesTo (d : Except Reject Instr) (i : Instr) : Bool :=
  match d with
  | .ok j => j == i
  | .error _ => false

/-- The decoder rejects, for this reason. -/
def rejects (d : Except Reject Instr) (why : Reject) : Bool :=
  match d with
  | .ok _ => false
  | .error e => e == why

/-! ### Well-formedness -/

theorem test_wellFormed_recv_two : (Instr.recv 2).WellFormed := by decide

theorem test_wellFormed_refuses_recv_three : ¬(Instr.recv 3).WellFormed := by decide

/-! ### Decoding: words written from R76, R77, R78 (T51, T52) -/

theorem test_decode_crc8 :
    decodesTo (decodeRecord 0b000100010010001101000101011000000000#36) (.crc8 0x123456) = true := by
  decide

theorem test_decode_crcchk :
    decodesTo (decodeRecord 0b001000010010001101000101011000010011#36) (.crcchk 0x123456 0x13) = true := by
  decide

theorem test_decode_frame :
    decodesTo (decodeRecord 0x397853600#36) (.frame 0x978536) = true := by
  decide

theorem test_decode_ml :
    decodesTo (decodeRecord 0b010000010010001101000101011000000000#36) (.ml 0x123456) = true := by
  decide

theorem test_decode_txev :
    decodesTo (decodeRecord 0b010100000000000000000000000000000000#36) (.txev) = true := by
  decide

theorem test_decode_rxev :
    decodesTo (decodeRecord 0b011000000000000000000001000011111111#36) (.rxev 0x10 0xFF) = true := by
  decide

theorem test_decode_halt :
    decodesTo (decodeRecord 0b011100000000000000000000000000000000#36) (.halt) = true := by
  decide

theorem test_decode_pack12 :
    decodesTo (decodeRecord 0x809780536#36) (.pack12 0x0978 0x0536) = true := by
  decide

theorem test_decode_reset :
    decodesTo (decodeRecord 0b111100000000000000000000000000000000#36) (.reset) = true := by
  decide

theorem test_decode_mlBuild :
    decodesTo (decodePhase 0b0000#4 0x412345600#36) (.mlBuild 0x123456) = true := by
  decide

theorem test_decode_mlArmtest :
    decodesTo (decodePhase 0b0001#4 0x400000000#36) (.mlArmtest) = true := by
  decide

theorem test_decode_mlArm :
    decodesTo (decodePhase 0b0010#4 0x400000000#36) (.mlArm) = true := by
  decide

theorem test_decode_mlRxtest :
    decodesTo (decodePhase 0b0011#4 0x400000000#36) (.mlRxtest) = true := by
  decide

theorem test_decode_mlRxclr :
    decodesTo (decodePhase 0b0100#4 0x400000000#36) (.mlRxclr) = true := by
  decide

theorem test_decode_mlCmp :
    decodesTo (decodePhase 0b0101#4 0x400000000#36) (.mlCmp) = true := by
  decide

theorem test_decode_mlErrinc :
    decodesTo (decodePhase 0b0110#4 0x400000000#36) (.mlErrinc) = true := by
  decide

theorem test_decode_mlTxrdy :
    decodesTo (decodePhase 0b0111#4 0x400000000#36) (.mlTxrdy) = true := by
  decide

theorem test_decode_mlRxdis :
    decodesTo (decodePhase 0b1000#4 0x400000000#36) (.mlRxdis) = true := by
  decide

theorem test_decode_send :
    decodesTo (decodeCommand 0b000100010010001101000101011000010011#36) (.send 0x12 0x34 0x56 0x13) = true := by
  decide

theorem test_decode_recv :
    decodesTo (decodeCommand 0b001000000000000000000000000000000010#36) (.recv 2) = true := by
  decide

theorem test_decode_armtx : decodesTo (decodeCommand 0x300000000#36) (.armtx) = true := by decide

theorem test_decode_distx : decodesTo (decodeCommand 0x400000000#36) (.distx) = true := by decide

theorem test_decode_armrx : decodesTo (decodeCommand 0x500000000#36) (.armrx) = true := by decide

theorem test_decode_disrx : decodesTo (decodeCommand 0x600000000#36) (.disrx) = true := by decide

theorem test_decode_acktx : decodesTo (decodeCommand 0x700000000#36) (.acktx) = true := by decide

theorem test_decode_ackrx : decodesTo (decodeCommand 0x800000000#36) (.ackrx) = true := by decide

/-- Reserved records of T51. -/
theorem test_decode_reserved_records :
    rejects (decodeRecord 0x412345601#36) (.mustBeZero .d 0x12345601) = true ∧
    rejects (decodeRecord 0x600011011#36) (.mustBeZero .r 0x00011011) = true ∧
    rejects (decodeRecord 0x500000001#36) (.mustBeZero .n 1) = true ∧
    rejects (decodeRecord 0x000000000#36) (.reservedStepCode 0) = true ∧
    rejects (decodeRecord 0xE00000000#36) (.reservedStepCode 0xE) = true := by decide

/-- Phase codes 9 and 15, commands 0x0 and 0x9, a payload other than R78's. -/
theorem test_decode_reserved_codes :
    rejects (decodePhase 9 0x400000000#36) (.reservedPhase 9) = true ∧
    rejects (decodePhase 15 0x400000000#36) (.reservedPhase 15) = true ∧
    rejects (decodePhase 0 0x500000000#36) (.notAnMlRecord 0x500000000) = true ∧
    rejects (decodeCommand 0x000000000#36) (.reservedCommand 0) = true ∧
    rejects (decodeCommand 0x900000000#36) (.reservedCommand 9) = true ∧
    rejects (decodeCommand 0x200000003#36) (.reservedPayload 2 3) = true := by decide

/-- The words of the eight commands of program 1 (T52). -/
theorem test_trace_records :
    [DrvCmd.armtx, .send 0x12 0x34 0x56 0x13, .armrx, .acktx, .distx, .recv 2, .ackrx,
      .disrx].map DrvCmd.record =
      [0x300000000, 0x112345613, 0x500000000, 0x700000000, 0x400000000, 0x200000002, 0x800000000,
        0x600000000] := by decide

/-- A table word longer than 8 bits is a stimulus record, one of at most 8 bits a phase code. -/
theorem test_decodeTableWord :
    decodeTableWord 40 0x809780536 = some (.pack12 0x0978 0x0536) ∧
    decodeTableWord 8 5 = some .mlCmp ∧ decodeTableWord 8 9 = none ∧
    decodeTableWord 40 0xA00000000 = none := by decide

/-! ### The codec -/

/-- T10: the working values after the loop, two of them with bits above 8 left over. -/
theorem test_crc8_working_value :
    crcWork 0x83 1 0x978536 = 0xE4CFBBCE ∧ crcWork 0x83 1 0x800000 = 0xFE03F808 ∧
    crcWork 0x183 1 0x978536 = 0x000001CE := by decide +kernel

/-- T10. -/
theorem test_crc8_values :
    crc8 0x000080 = 0xFD ∧ crc8 0x004001 = 0xFF ∧ crc8 0xFF0000 = 0x0B ∧ crc8 0xABCDEF = 0x41 ∧
    crc8 0x85B160 = 0xDD := by decide +kernel

/-- T20. -/
theorem test_crcchk :
    crcchk 0x978536 0xB2 = true ∧ crcchk 0xFFFFFF 0x80 = true ∧ crcchk 0xFFFFFF 0x00 = false ∧
    verifyWith .equality (crc8 0x978536) 0xB2 = false := by decide +kernel

/-- T25. -/
theorem test_frame :
    frameOf 0x0000FF = ⟨0x00, 0x00, 0xFF, 0x01⟩ ∧ frameOf 0x00FF00 = ⟨0x00, 0xFF, 0x00, 0x05⟩ ∧
    (frameOf 0xABCDEF).image = 0xABCDEF41 := by decide +kernel

/-- T28. -/
theorem test_pack12 :
    pack12 0xF123 0xF456 = 0x123456 ∧ pack12 0x0001 0x0000 = 0x001000 ∧
    pack12 0x1000 0x1000 = 0 := by decide

/-! ### The main loop -/

/-- T30: a rebuild over a Frame already there, the flags untouched. -/
theorem test_mlBuild :
    goesTo (exec (.mlBuild 0x123456) (busy 0)) (fun t => t.mlPhase == 1 &&
      t.frame == ⟨⟨0x12, 0x34, 0x56, 0x13⟩, true⟩ && t.dataWord == ⟨0x123456, true⟩ &&
      t.transmitReady && t.txIntArmed) = true := by decide +kernel

/-- T31. -/
theorem test_mlArmtest :
    goesTo (exec .mlArmtest (busy 1)) (fun t => t.mlPhase == 2) = true ∧
    goesTo (exec .mlArmtest { busy 1 with transmitReady := false }) (fun t => t.mlPhase == 3) =
      true := by decide +kernel

/-- T32, the stale test: `transmitReady` is not consulted. -/
theorem test_mlArm :
    goesTo (exec .mlArm { fresh 2 with transmitReady := false }) (fun t => t.mlPhase == 3 &&
      t.txIntArmed && !t.transmitReady && t.drvTrace == [.armtx]) = true := by decide +kernel

/-- T33. -/
theorem test_mlRxtest :
    goesTo (exec .mlRxtest (fresh 3)) (fun t => t.mlPhase == 0) = true ∧
    goesTo (exec .mlRxtest (busy 3)) (fun t => t.mlPhase == 4) = true := by decide +kernel

/-- T34. -/
theorem test_mlRxclr :
    goesTo (exec .mlRxclr (busy 4)) (fun t => t.mlPhase == 5 && !t.receiveReady &&
      t.rxFrame == ⟨⟨0x10, 0x11⟩, true⟩) = true := by decide +kernel

/-- T35: a match that wraps, with the cursor at `FF`. -/
theorem test_mlCmp_wraps :
    goesTo (exec .mlCmp { busy 5 with expectedCursor := 0xFF, rxFrame := ⟨⟨0xFF, 0x00⟩, true⟩ })
      (fun t => t.mlPhase == 7 && t.matchReg == ⟨true, true⟩) = true := by decide +kernel

/-- T35: `10 12` and `11 11` are mismatches. -/
theorem test_mlCmp_mismatch :
    goesTo (exec .mlCmp { busy 5 with rxFrame := ⟨⟨0x10, 0x12⟩, true⟩ })
      (fun t => t.mlPhase == 6 && t.matchReg == ⟨false, true⟩) = true ∧
    goesTo (exec .mlCmp { busy 5 with rxFrame := ⟨⟨0x11, 0x11⟩, true⟩ })
      (fun t => t.mlPhase == 6) = true := by decide +kernel

/-- A reset block forced into `CMP` compares the bytes the model names for reset (note 2). -/
theorem test_unwritten_pair_is_compared :
    goesTo (exec .mlCmp (fresh 5)) (fun t => t.rxFrame == ⟨⟨0, 0⟩, false⟩ && t.matchReg.written) =
      true := by
  rw [show exec .mlCmp (fresh 5) = .next (microCmpWith Config.curV (fresh 5)) from rfl,
    microCmpWith_eq]
  rfl

/-- T36. -/
theorem test_mlErrinc :
    goesTo (exec .mlErrinc { fresh 6 with rxIntArmed := true, transmitReady := false })
      (fun t => t.mlPhase == 0 && t.rxIntArmed && !t.transmitReady && !t.halted) = true := by
  decide +kernel

/-- T36: the counter goes from its greatest value to 0. -/
theorem test_mlErrinc_wraps :
    ∃ t : State, exec .mlErrinc { fresh 6 with errorCount := BitVec.allOnes _ } = .next t ∧
      t.errorCount = 0 :=
  ⟨_, rfl, by
    change BitVec.allOnes Config.errcntW + 1#Config.errcntW = 0#Config.errcntW
    rw [← BitVec.neg_one_eq_allOnes]
    exact BitVec.add_left_neg _⟩

/-- T37. -/
theorem test_mlTxrdy :
    goesTo (exec .mlTxrdy { fresh 7 with transmitReady := false })
      (fun t => t.mlPhase == 8 && t.transmitReady) = true := by decide +kernel

/-- T38: the pair staged just before survives. -/
theorem test_mlRxdis :
    goesTo (exec .mlRxdis (busy 8)) (fun t => t.mlPhase == 0 && !t.rxIntArmed && t.receiveReady &&
      t.drvTrace == [.disrx]) = true := by decide +kernel

/-- T39: `ML` in an unreachable phase and in a halted block. -/
theorem test_ml_refused (d : DataWord) :
    exec (.ml d) (fresh 9) = .refused (.phaseUnreachable 9) ∧
    exec (.ml d) stopped = .refused .halted := ⟨rfl, rfl⟩

/-- T30 through the record of `ML`, from the reset state. -/
theorem test_ml_builds :
    goesTo (step { State.reset with stim := [0x412345600] }) (fun t => t.mlPhase == 1 &&
      t.frame == ⟨⟨0x12, 0x34, 0x56, 0x13⟩, true⟩ && t.stim == []) = true := by decide +kernel

/-! ### Events, halt, reset -/

/-- T40, with `transmitReady` already 0: a second Frame is sent. -/
theorem test_txev :
    goesTo (exec .txev { busy 1 with transmitReady := false }) (fun t => t.mlPhase == 1 &&
      !t.transmitReady && !t.txIntArmed && t.rxIntArmed &&
      t.drvTrace.map DrvCmd.record == [0x197853631, 0x500000000, 0x700000000, 0x400000000]) =
      true := by decide +kernel

theorem test_txev_disarmed : exec .txev State.reset = .refused .transmitLineDisarmed := rfl

/-- T41: the overwrite. -/
theorem test_rxev :
    goesTo (exec (.rxev 0x55 0x66) (busy 0)) (fun t => t.receiveReady && t.rxIntArmed &&
      t.rxFrame == ⟨⟨0x55, 0x66⟩, true⟩ &&
      t.drvTrace.map DrvCmd.record == [0x200000002, 0x800000000]) = true := by decide +kernel

theorem test_rxev_disarmed : exec (.rxev 0 0) State.reset = .refused .receiveLineDisarmed := rfl

/-- T42. -/
theorem test_halt :
    goesTo (exec .halt (busy 5)) (fun t => t.halted && t.mlPhase == 5 && t.drvTrace == []) = true ∧
    goesTo (exec (.crc8 0x123456) stopped) (fun t => t.result == .crc 0x13 && t.halted) = true := by
  decide +kernel

/-- T43. -/
theorem test_reset :
    goesTo (exec .reset stopped) (fun t => t.transmitReady && !t.receiveReady && !t.halted &&
      t.mlPhase == 0 && !t.frame.written && !t.rxFrame.written && t.drvTrace == []) = true := by
  decide +kernel

/-! ### Driver commands -/

/-- R161 to R168: the commands that arm and disarm, one after the other. -/
theorem test_shadow_commands :
    goesTo (execAll [.armtx, .armrx, .distx] State.reset) (fun t => !t.txIntArmed && t.rxIntArmed) =
      true ∧
    goesTo (execAll [.armrx, .armtx, .disrx] State.reset) (fun t => t.txIntArmed && !t.rxIntArmed) =
      true := by decide +kernel

/-- R161, R162, R167, R168: the commands that write no shadow bit, in the order they were issued. -/
theorem test_plain_commands :
    goesTo (execAll [.send 0x12 0x34 0x56 0x13, .recv 2, .acktx, .ackrx] (busy 0)) (fun t =>
      t.txIntArmed && t.rxIntArmed &&
      t.drvTrace == [.send 0x12 0x34 0x56 0x13, .recv 2, .acktx, .ackrx]) = true := by
  decide +kernel

/-! ### Witnesses: the hypotheses of each statement can be met -/

/-- T25. -/
theorem frame_978536 : (⟨0x97, 0x85, 0x36, 0x31⟩ : Frame) = frameOf 0x978536 := by decide +kernel

/-- The rich states meet the invariant, in every legal phase. -/
theorem busy_inv (code : Nibble) (h : code.toNat ≤ 8) : Inv (busy code) where
  phaseLegal := h
  frameFresh := fun _ => ⟨rfl, frame_978536⟩
  frameBuilt := fun _ => rfl
  armedFrame := fun _ => rfl
  readyPair := fun _ => rfl
  validatedPair := fun _ => rfl
  matchMirror := by rintro (h | h) <;> rw [show code = _ from h] <;> rfl
  mismatchMirror := by intro h; rw [show code = _ from h]; rfl

/-- A block that has not built a Frame yet and waits for a receive event. -/
theorem fresh_inv : Inv { State.reset with transmitReady := false } where
  phaseLegal := by decide
  frameFresh := by decide
  frameBuilt := by decide
  armedFrame := by decide
  readyPair := by decide
  validatedPair := by decide
  matchMirror := by decide
  mismatchMirror := by decide

theorem witness_DecodeOfEncodeIsTheInstruction :
    (Instr.recv 2).WellFormed ∧ (Instr.crcchk 0xFFFFFF 0).WellFormed ∧ (Instr.mlBuild 0).WellFormed :=
  by decide

theorem witness_EncodeOfDecodedRecordIsTheRecord :
    decodeRecord 0x8FFFFFFFF#36 = .ok (.pack12 0xFFFF 0xFFFF) ∧
    decodeCommand 0x1FFFFFF0F#36 = .ok (.send 0xFF 0xFF 0xFF 0x0F) ∧
    decodePhase 0 0x412345600#36 = .ok (.mlBuild 0x123456) ∧
    decodePhase 8 0x412345600#36 = .ok .mlRxdis := by decide

theorem witness_DecodedIsWellFormed : decode (.command 0x200000002#36) = .ok (.recv 2) := by decide

theorem witness_RecordsNeverDecodeToCommands : decodeRecord 0x700000000#36 = .ok .halt := by decide

theorem witness_StepRunsTheDecodedRecord :
    ({ State.reset with stim := [0x412345600] } : State).stim = 0x412345600 :: [] ∧
    decodeRecord 0x412345600 = .ok (.ml 0x123456) ∧
    decodeRecord 0x900000000 = .error (.reservedStepCode 9) ∧ State.reset.stim = [] := by decide

theorem witness_PlacedTableWordIsPerformed : decodeRecord 0xF00000000 = .ok .reset := by decide

theorem witness_Crc8ResultsAreTheOddBytes :
    (0x01 : Byte).getLsbD 0 = true ∧ (0xFF : Byte).getLsbD 0 = true ∧ 0 ≤ 9 ∧ 9 ≤ 9 := by decide

theorem witness_CrcchkIsTheAndOfTwoNonzeroTests : (0x01 : Byte) ≠ 0 ∧ (0xFF : Byte) ≠ 0 := by decide

theorem witness_PureOperationsReadAndWriteNoState :
    isPure (.crc8 0) = true ∧ isPure (.crcchk 0 0) = true ∧ isPure (.frame 0) = true ∧
    isPure (.pack12 0 0) = true := by decide

theorem witness_MlBuildLoadsTheFrame :
    (busy 0).halted = false ∧ (busy 0).mlPhase = 0 := by decide

theorem witness_MlArmtestBranchesOnTransmitReady :
    (busy 1).halted = false ∧ (busy 1).mlPhase = 1 := by decide

theorem witness_MlArmArmsTheTransmitLine :
    (busy 2).halted = false ∧ (busy 2).mlPhase = 2 := by decide

theorem witness_MlRxtestBranchesOnReceiveReady :
    (busy 3).halted = false ∧ (busy 3).mlPhase = 3 := by decide

theorem witness_MlRxclrClearsReceiveReady :
    (busy 4).halted = false ∧ (busy 4).mlPhase = 4 := by decide

theorem witness_MlErrincCountsModuloTheWidth :
    (busy 6).halted = false ∧ (busy 6).mlPhase = 6 := by decide

theorem witness_MlTxrdySetsTransmitReady :
    (busy 7).halted = false ∧ (busy 7).mlPhase = 7 := by decide

theorem witness_MlRxdisDisarmsTheReceiveLine :
    (busy 8).halted = false ∧ (busy 8).mlPhase = 8 := by decide

/-- A match and, with the second byte one too high, a mismatch. -/
theorem witness_MlCmpComparesWithTheCursor :
    (busy 5).halted = false ∧ (busy 5).mlPhase = 5 ∧
    ((busy 5).rxFrame.value.rx0 = (busy 5).expectedCursor ∧
      (busy 5).rxFrame.value.rx1 = (busy 5).expectedCursor + 1) ∧
    ¬((0x10 : Byte) = (busy 5).expectedCursor ∧ (0x12 : Byte) = (busy 5).expectedCursor + 1) := by
  decide

theorem witness_ReadsOfUnwrittenBuffersGiveTheNamedValue :
    ((fresh 5).halted = false ∧ (fresh 5).mlPhase = 5 ∧ (fresh 5).rxFrame = State.reset.rxFrame) ∧
    (fresh 0).halted = false ∧ ({ fresh 0 with txIntArmed := true } : State).txIntArmed = true ∧
    (fresh 0).frame = State.reset.frame := by decide

/-- Every phase names its micro-operation; the codes 9 and 15 name none. -/
theorem witness_MlPerformsTheNamedMicroOperation :
    (busy 8).mlPhase = Phase.rxdis.code ∧
    ((fresh 9).halted = false ∧ 9 ≤ (fresh 9).mlPhase.toNat) ∧
    (fresh 15).halted = false ∧ 9 ≤ (fresh 15).mlPhase.toNat := by decide

/-- The first and the last legal phase, in states that meet the invariant. -/
theorem witness_MlCompletesWheneverRunning :
    (Inv (busy 8) ∧ (busy 8).mlPhase.toNat ≤ 8 ∧ (busy 8).halted = false ∧ (busy 8).mlPhase ≠ 0) ∧
    Inv (busy 0) ∧ (busy 0).mlPhase.toNat ≤ 8 ∧ (busy 0).halted = false :=
  ⟨⟨busy_inv 8 (by decide), by decide, rfl, by decide⟩, busy_inv 0 (by decide), by decide, rfl⟩

theorem witness_MicroOperationNeedsItsPhase :
    stopped.halted = true ∧ (busy 1).halted = false ∧ (busy 1).mlPhase ≠ Phase.arm.code := by decide

theorem witness_TxevSendsTheFrameAndDisarms :
    ((busy 0).halted = false ∧ (busy 0).txIntArmed = true) ∧
    ((fresh 0).halted = false ∧ (fresh 0).txIntArmed = false) ∧ stopped.halted = true ∧
    (Inv { State.reset with transmitReady := false } ∧ State.reset.frame.written = false) :=
  ⟨by decide, by decide, rfl, fresh_inv, rfl⟩

theorem witness_RxevStagesThePair :
    ((busy 0).halted = false ∧ (busy 0).rxIntArmed = true) ∧
    ((fresh 0).halted = false ∧ (fresh 0).rxIntArmed = false) ∧ stopped.halted = true := by decide

theorem witness_HaltFreezesTheBlock : (busy 4).halted = false ∧ stopped.halted = true := by decide

theorem witness_ResetStateAndItsEnabledSteps : isPure (.frame 1) = true := by decide

/-- A halted block goes on under a pure operation and under `RESET`. -/
theorem witness_HaltedIsAbsorbingButForReset :
    IsFaultState { stopped with stim := [0x112345600] } ∧
    (∃ t : State, step { stopped with stim := [0x112345600] } = .next t) ∧
    IsFaultState { stopped with stim := [0xF00000000] } ∧
    ∃ t : State, step { stopped with stim := [0xF00000000] } = .next t :=
  ⟨rfl, ⟨_, rfl⟩, rfl, _, rfl⟩

theorem witness_RecvOfAnotherCountIsRefused : (0 : Word32) ≠ 2#32 ∧ (3 : Word32) ≠ 2#32 := by decide

/-- One step of each kind that issues commands, and one that issues none. -/
theorem witness_CommandsIssuedPerStep :
    isCommand .mlArm = false ∧ Instr.mlArm ≠ .reset ∧
    (∃ t : State, exec .mlArm (busy 2) = .next t) ∧
    (∃ t : State, exec .mlRxdis (busy 8) = .next t) ∧
    (∃ t : State, exec (.ml 0) (busy 2) = .next t) ∧
    (∃ t : State, exec .txev (busy 0) = .next t) ∧
    (∃ t : State, exec (.rxev 1 2) (busy 0) = .next t) ∧
    ∃ t : State, exec .halt (busy 0) = .next t :=
  ⟨rfl, by decide, ⟨_, rfl⟩, ⟨_, rfl⟩, ⟨_, rfl⟩, ⟨_, rfl⟩, ⟨_, rfl⟩, _, rfl⟩

/-- A step that makes each of the four changes. -/
theorem witness_FlagsHaveOneWriterPerDirection :
    (∃ t : State, exec .txev (busy 0) = .next t ∧ (busy 0).transmitReady = true ∧
      t.transmitReady = false) ∧
    (∃ t : State, exec (.ml 0) { busy 7 with transmitReady := false } = .next t ∧
      t.transmitReady = true) ∧
    (∃ t : State, exec (.rxev 1 2) { busy 0 with receiveReady := false } = .next t ∧
      t.receiveReady = true) ∧
    ∃ t : State, exec (.ml 0) (busy 4) = .next t ∧ (busy 4).receiveReady = true ∧
      t.receiveReady = false :=
  ⟨⟨_, rfl, rfl, rfl⟩, ⟨_, rfl, rfl⟩, ⟨_, rfl, rfl⟩, _, rfl, rfl, rfl⟩

/-- Steps that change `rxFrame`, `frame`, `mlPhase`, `halted` and the two shadow bits. -/
theorem witness_RegistersHaveTheirOwners :
    (∃ t : State, exec (.rxev 1 2) (busy 0) = .next t ∧ t.rxFrame ≠ (busy 0).rxFrame) ∧
    (∃ t : State, exec (.mlBuild 1) (busy 0) = .next t ∧ t.frame ≠ (busy 0).frame ∧
      t.mlPhase ≠ (busy 0).mlPhase) ∧
    (∃ t : State, exec .halt (busy 0) = .next t ∧ t.halted ≠ (busy 0).halted) ∧
    (∃ t : State, exec .txev (busy 0) = .next t ∧ t.txIntArmed ≠ (busy 0).txIntArmed) ∧
    ∃ t : State, exec .mlRxdis (busy 8) = .next t ∧ t.rxIntArmed ≠ (busy 8).rxIntArmed :=
  ⟨⟨_, rfl, by decide⟩, ⟨_, rfl, by decide +kernel⟩, ⟨_, rfl, by decide⟩, ⟨_, rfl, by decide⟩, _, rfl,
    by decide⟩

/-- `errorCount`, `matchReg` change in ML.ERRINC and ML.CMP. -/
theorem witness_RegistersHaveTheirOwners_counters :
    (∃ t : State, exec .mlErrinc (busy 6) = .next t ∧ t.errorCount ≠ (busy 6).errorCount) ∧
    ∃ t : State, exec .mlCmp { busy 5 with matchReg := ⟨false, true⟩ } = .next t ∧
      t.matchReg ≠ ⟨false, true⟩ := by
  refine ⟨⟨_, rfl, ?_⟩, ⟨_, rfl, ?_⟩⟩
  · change (0 : BitVec Config.errcntW) + 1 ≠ 0
    intro h
    rw [show (0 : BitVec Config.errcntW) + 1 = 1#Config.errcntW from BitVec.zero_add _] at h
    have one := congrArg BitVec.toNat h
    have width : 1 < 2 ^ Config.errcntW :=
      Nat.one_lt_two_pow (show Config.errcntW ≠ 0 from Nat.succ_ne_zero _)
    rw [BitVec.toNat_ofNat, Nat.mod_eq_of_lt width] at one
    exact Nat.one_ne_zero one
  · decide

theorem witness_BufferBytesChangeOnlyByBuildAndRxev :
    (∃ t : State, exec .halt (busy 0) = .next t) ∧
    (∃ t : State, exec (.mlBuild 1) (busy 0) = .next t) ∧
    ∃ t : State, exec (.rxev 1 2) (busy 0) = .next t := ⟨⟨_, rfl⟩, ⟨_, rfl⟩, _, rfl⟩

theorem witness_StepKeepsTheInvariant :
    Inv { busy 5 with stim := [0x400000000] } ∧
    ∃ t : State, step { busy 5 with stim := [0x400000000] } = .next t :=
  ⟨⟨by decide, fun _ => ⟨rfl, frame_978536⟩, fun _ => rfl, fun _ => rfl, fun _ => rfl,
    fun _ => rfl, by decide, by decide⟩, _, rfl⟩

/-- Two blocks that have built a Frame and received nothing, with other bytes in `rxFrame`, and a record. -/
theorem witness_NoStepReadsAnUnwrittenRegister :
    ∃ s s' : State, Inv s ∧ SameButUnwritten s s' ∧ s.rxFrame.value ≠ s'.rxFrame.value ∧
      ∃ t : State, step s = .next t :=
  ⟨{ blocked 0 with stim := [mlRecord 0] },
    { blocked 0 with stim := [mlRecord 0], rxFrame := ⟨⟨0x55, 0x66⟩, false⟩ },
    ⟨by decide, fun _ => ⟨rfl, rfl⟩, fun _ => rfl, by decide, by decide, by decide, by decide,
      by decide⟩,
    ⟨⟨rfl, fun _ => rfl⟩, ⟨rfl, fun _ => rfl⟩, ⟨rfl, by decide⟩, ⟨rfl, by decide⟩, rfl⟩,
    by decide, _, rfl⟩

/-- A trace with one transmission, after which the line is armed again. -/
def sentOnce : State :=
  { busy 3 with
    drvTrace := [.armtx, .send 0 0 0 0xFF, .armrx, .acktx, .distx, .armtx]
    stim := [0x500000000] }

theorem witness_StepKeepsTheTraceShape :
    TraceInv sentOnce ∧ ∃ t : State, step sentOnce = .next t :=
  ⟨⟨by decide, by decide, by decide, by decide, by decide⟩, _, rfl⟩

theorem witness_GroupedTracesBalance :
    TraceInv sentOnce ∧ (∀ i ∈ [Instr.txev, .rxev 1 2, .ml 0], isCommand i = false ∧ i ≠ .reset) ∧
    ∃ t : State, execAll [.txev, .rxev 1 2, .ml 0] (busy 2) = .next t :=
  ⟨⟨by decide, by decide, by decide, by decide, by decide⟩, by decide, _, rfl⟩

theorem witness_SentFrameIsTheLatestBuilt :
    Inv (busy 0) ∧ (busy 0).halted = false ∧ (busy 0).txIntArmed = true :=
  ⟨busy_inv 0 (by decide), rfl, rfl⟩

/-- The longest iteration, 8 steps in all (`n` is 7), and the shortest, 3 steps
(`n` is 2). -/
theorem witness_IterationLengthFromTheFlags :
    ((busy 0).halted = false ∧ (busy 0).mlPhase = 0 ∧
      7 = 2 + (if (busy 0).transmitReady = true then 1 else 0) +
        (if (busy 0).receiveReady = true then
          (if pairMatches (busy 0).expectedCursor (busy 0).rxFrame.value = true then 4 else 3)
          else 0)) ∧
    (blocked 0).halted = false ∧ (blocked 0).mlPhase = 0 ∧
    2 = 2 + (if (blocked 0).transmitReady = true then 1 else 0) +
      (if (blocked 0).receiveReady = true then 4 else 0) := by decide

/-- An idle link with the transmit line armed, and the pair the comparison will expect. -/
theorem witness_FullCycleRestoresLinkState :
    ∃ (s : State) (c : Byte), s.halted = false ∧ s.mlPhase = 0 ∧
      s.txIntArmed = true ∧ s.transmitReady = true ∧ s.receiveReady = false ∧
      c = Config.curR s.expectedCursor :=
  ⟨{ busy 0 with receiveReady := false }, _, rfl, rfl, rfl, rfl, rfl, rfl⟩

/-- A pair whose first byte is one too high. -/
theorem witness_MismatchIsCountedAndBlocksTheLink :
    ∃ (s : State) (a b c : Byte), s.halted = false ∧ s.mlPhase = 0 ∧
      s.txIntArmed = true ∧ c = Config.curR s.expectedCursor ∧ ¬(a = c ∧ b = c + 1) := by
  refine ⟨busy 0, Config.curR 0x10 + 1, 0, _, rfl, rfl, rfl, rfl, ?_⟩
  rintro ⟨h, -⟩
  have ne : ∀ c : Byte, c + 1 ≠ c := by decide
  exact ne _ h

theorem witness_StaleArmSendsASecondFrame :
    (busy 2).halted = false ∧ (busy 2).mlPhase = 2 ∧ (busy 2).txIntArmed = true := by decide

/-- A state for each of the two phases the clauses name. -/
theorem witness_ReceiveEventsOverwriteAndMerge :
    ((busy 4).halted = false ∧ (busy 4).rxIntArmed = true ∧ (busy 4).mlPhase = 4) ∧
    (busy 5).halted = false ∧ (busy 5).rxIntArmed = true ∧ (busy 5).mlPhase = 5 := by decide

/-- The second comparison, after a first that matched. -/
theorem witness_ReceiveEventsOverwriteAndMerge_match :
    ∃ (a b c c' : Byte), (busy 5).mlPhase = 5 ∧ c = Config.curR (busy 5).expectedCursor ∧
      (true = true ↔ a = c ∧ b = c + 1) ∧ c' = Config.curV c true :=
  ⟨_, _, Config.curR 0x10, _, rfl, rfl, ⟨fun _ => ⟨rfl, rfl⟩, fun _ => rfl⟩, rfl⟩

/-- The second comparison, after a first that failed; the pair `00 00` fails it too, for every cursor. -/
theorem witness_ReceiveEventsOverwriteAndMerge_mismatch :
    ∃ (c c' : Byte), c = Config.curR (busy 5).expectedCursor ∧
      (false = true ↔ (0 : Byte) = c ∧ (0 : Byte) = c + 1) ∧ c' = Config.curV c false ∧
      ¬((0 : Byte) = c' ∧ (0 : Byte) = c' + 1) := by
  have never : ∀ x : Byte, ¬((0 : Byte) = x ∧ (0 : Byte) = x + 1) := by decide
  exact ⟨_, _, rfl, by simpa using never _, rfl, never _⟩

theorem witness_SurplusReceiveEventStaysStaged :
    (busy 7).halted = false ∧ (busy 7).rxIntArmed = true ∧ (busy 7).mlPhase = 7 := by decide

theorem witness_BothEventOrdersAreAdmitted :
    (busy 0).halted = false ∧ (busy 0).txIntArmed = true ∧ (busy 0).rxIntArmed = true := by decide

/-- The blocked link in each of the three phases of its loop, its line disarmed, and a step it takes. -/
theorem witness_StalledLinkStaysStalled :
    Stalled (blocked 0) ∧ Stalled (blocked 1) ∧ Stalled (blocked 3) ∧
    (blocked 1).txIntArmed = false ∧ isCommand .mlArmtest = false ∧
    ∃ t : State, exec .mlArmtest (blocked 1) = .next t :=
  ⟨⟨rfl, rfl, rfl, .inl rfl⟩, ⟨rfl, rfl, rfl, .inr (.inl rfl)⟩, ⟨rfl, rfl, rfl, .inr (.inr rfl)⟩, rfl,
    rfl, _, rfl⟩

/-- The states of the blocked link under `ML 0` for ever: BUILD, ARMTEST, RXTEST and again. -/
def blockedRun (n : Nat) : State :=
  blocked (if n % 3 = 0 then 0 else if n % 3 = 1 then 1 else 3)

theorem mlRecord_zero : decodeRecord (mlRecord 0) = .ok (.ml 0) := by decide

theorem blocked_build : step ((blocked 0).present (.record (mlRecord 0))) = .next (blocked 1) := rfl

theorem blocked_armtest : step ((blocked 1).present (.record (mlRecord 0))) = .next (blocked 3) := rfl

theorem blocked_rxtest : step ((blocked 3).present (.record (mlRecord 0))) = .next (blocked 0) := rfl

/-- An infinite execution that is weakly fair and never halted, and in which no event fires. -/
theorem witness_StalledLinkStaysStalled_execution :
    IsExecution (fun _ => mlRecord 0) blockedRun ∧ WeaklyFair (fun _ => mlRecord 0) blockedRun ∧
    ∀ n : Nat, (blockedRun n).halted = false := by
  refine ⟨fun n => ?_, fun n _ => ⟨n, Nat.le_refl n, 0, mlRecord_zero⟩, fun _ => rfl⟩
  have phases : n % 3 = 0 ∧ (n + 1) % 3 = 1 ∨ n % 3 = 1 ∧ (n + 1) % 3 = 2 ∨
      n % 3 = 2 ∧ (n + 1) % 3 = 0 := by omega
  rcases phases with ⟨now, next⟩ | ⟨now, next⟩ | ⟨now, next⟩ <;> simp only [blockedRun, now, next]
  · exact blocked_build
  · exact blocked_armtest
  · exact blocked_rxtest

end Sys2Proof.Tests
end

section
/-! PROOF. Two statements about the encoded operations (spec/30_encoding.md): the rows of the
micro-operations under the guard of their phase (R58 a, R77, R80 d, R82), and the composition of a
DataWord (R74). -/

namespace Sys2Proof.Machine

variable {s : State} {k : Out}

/-! ### The guard of a micro-operation row -/

/-- A block that is halted performs no micro-operation, whatever `mlPhase` holds (R58 a). -/
theorem whenSelected_halted {p : Phase} (h : s.halted = true) :
    whenSelected p s k = .refused .halted :=
  whenRunning_halted h

/-- A running block refuses the micro-operation of a phase that is not its own (R77, R82). -/
theorem whenSelected_notSelected {p : Phase} (h : s.halted = false) (hp : s.mlPhase ≠ p.code) :
    whenSelected p s k = .refused (.phaseNotSelected s.mlPhase) := by
  rw [whenSelected, whenRunning_running h, if_neg hp]

/-- Every micro-operation row is the micro-operation of its phase under the guard of that phase, so
what is proved of the guard and of `microOp` holds of all nine rows (R77, R122 to R130). -/
theorem exec_phaseInstr (p : Phase) (data : DataWord) (s : State) :
    exec (p.instr data) s = whenSelected p s (.next (microOp p data s)) := by
  cases p <;> rfl

/-- Settles O32: the nine rows share one guard, which refuses by name in both cases. -/
theorem microOperationNeedsItsPhase : Obligations.MicroOperationNeedsItsPhase := by
  intro s p data
  rw [exec_phaseInstr]
  exact ⟨whenSelected_halted, whenSelected_notSelected⟩

/-! ### The composition of a DataWord -/

/-- An operand word of `PACK12` is its four discarded bits and its low 12-bit field (R74). -/
theorem word16_fields (a : Word16) : a.extractLsb' 12 4 ++ a.extractLsb' 0 12 = a :=
  (BitVec.extractLsb'_append_extractLsb'_eq_extractLsb' (x := a) rfl).trans (by simp)

/-- The mask of R74 discards bits 15:12 and keeps the low 12-bit field. -/
theorem and_lowMask (a : Word16) : a &&& 0xFFF#16 = 0#4 ++ a.extractLsb' 0 12 :=
  calc a &&& 0xFFF#16
    _ = (a.extractLsb' 12 4 ++ a.extractLsb' 0 12) &&& (0#4 ++ BitVec.allOnes 12) := by
      rw [word16_fields]; rfl
    _ = 0#4 ++ a.extractLsb' 0 12 := by
      rw [BitVec.and_append, BitVec.and_zero, BitVec.and_allOnes]

/-- A masked operand, widened as `PACK12` widens it, is its low field widened. -/
theorem setWidth_and_lowMask (a : Word16) :
    (a &&& 0xFFF#16).setWidth 24 = (a.extractLsb' 0 12).setWidth 24 := by
  rw [and_lowMask, BitVec.setWidth_append_eq_shiftLeft_setWidth_or]
  simp

/-- The expression of R74 (mask, shift, or) is the concatenation of the two low fields. -/
theorem pack12_eq_append (a b : Word16) :
    pack12 a b = a.extractLsb' 0 12 ++ b.extractLsb' 0 12 := by
  rw [pack12, setWidth_and_lowMask, setWidth_and_lowMask,
    ← BitVec.setWidth_append_eq_shiftLeft_setWidth_or, BitVec.setWidth_eq]

/-- `PACK12` completes in every state and only returns its value (R58 f, R83). -/
theorem exec_pack12 (a b : Word16) (s : State) :
    exec (.pack12 a b) s = .next { s with result := .data (pack12 a b) } := rfl

/-- Settles O18: the value by `pack12_eq_append`; the corner cases are closed. -/
theorem pack12ConcatenatesTheLowFields : Obligations.Pack12ConcatenatesTheLowFields := by
  refine ⟨fun a b s => ?_, by decide, by decide, by decide⟩
  rw [exec_pack12, pack12_eq_append]

end Sys2Proof.Machine
end

section
/-! PROOF. The statements about `CRC8` and `CRCCHK` (spec/40_crc.md R90, R98) and about the four pure
operations together (R97, R101). The one idea behind R98: the loop stops at `i = 1`, so it never touches
bit 0 of the working value, which the shift by 8 made 0; the complement makes it 1, so no result is 0. -/

namespace Sys2Proof.Machine

/-! ### The four pure operations complete in every state and only return their value (R58 f, R83) -/

theorem exec_crc8 (data : DataWord) (s : State) :
    exec (.crc8 data) s = .next { s with result := .crc (crc8 data) } := rfl

theorem exec_crcchk (data : DataWord) (crc : Byte) (s : State) :
    exec (.crcchk data crc) s = .next { s with result := .valid (crcchk data crc) } := rfl

theorem exec_frame (data : DataWord) (s : State) :
    exec (.frame data) s = .next { s with result := .frame (frameOf data) } := rfl

/-- Settles O19: each of the four equations names a result that mentions no state. -/
theorem pureOperationsReadAndWriteNoState : Obligations.PureOperationsReadAndWriteNoState := by
  intro i pure
  cases i with
  | crc8 data => exact ⟨.crc (crc8 data), nofun, exec_crc8 data⟩
  | crcchk data crc => exact ⟨.valid (crcchk data crc), nofun, exec_crcchk data crc⟩
  | frame data => exact ⟨.frame (frameOf data), nofun, exec_frame data⟩
  | pack12 a b => exact ⟨.data (pack12 a b), nofun, exec_pack12 a b⟩
  | _ => cases pure

/-! ### The loop -/

/-- The loop is a fold of its iterations over the bit positions, highest first (R90). -/
theorem crcLoop_eq_foldl (poly : Word32) (low n : Nat) (w : Word32) :
    crcLoop poly low n w = (List.range' low n).reverse.foldl (crcStep poly) w := by
  induction n generalizing w with
  | zero => rfl
  | succ n ih => simp [crcLoop, ih, List.range'_1_concat]

/-- Iteration `i` adds `poly << i`, which has no bit below position `i` (R91). -/
theorem crcStep_getLsbD_of_lt (poly w : Word32) {i j : Nat} (h : j < i) :
    (crcStep poly w i).getLsbD j = w.getLsbD j := by
  unfold crcStep
  split
  · simp [h]
  · rfl

/-- The loop leaves every bit below its lower bound as it was. -/
theorem crcLoop_getLsbD_of_lt (poly w : Word32) {low j : Nat} (n : Nat) (h : j < low) :
    (crcLoop poly low n w).getLsbD j = w.getLsbD j := by
  induction n generalizing w with
  | zero => rfl
  | succ n ih => rw [crcLoop, ih, crcStep_getLsbD_of_lt poly w (Nat.lt_add_right n h)]

/-- `CRC8` written as the fold of R90 over the positions from 23 down to 1. -/
theorem crc8_eq_foldl (data : DataWord) :
    crc8 data = ~~~(((List.range' 1 23).reverse.foldl (crcStep Config.crcPolyLiteral)
      (data.setWidth 32 <<< 8)).extractLsb' 0 8) :=
  congrArg crcResult (crcLoop_eq_foldl ..)

/-- Settles O9: the loop by `crc8_eq_foldl`; the corner cases are closed. -/
theorem crc8FollowsTheBitLoop : Obligations.Crc8FollowsTheBitLoop := by
  refine ⟨fun data s => ?_, fun _ => rfl, ?_⟩
  · rw [exec_crc8, crc8_eq_foldl]
    rfl
  · decide +kernel

/-! ### The verifier -/

/-- The working value starts with bit 0 clear and keeps it (R91). -/
theorem crcWork_getLsbD_zero (poly : Word32) {low : Nat} (h : 0 < low) (data : DataWord) :
    (crcWork poly low data).getLsbD 0 = false := by
  rw [crcWork, crcLoop_getLsbD_of_lt poly _ _ h]
  simp

/-- Every result is odd: bit 0 is the complement of a bit the loop leaves clear (R95). -/
theorem crc8_getLsbD_zero (data : DataWord) : (crc8 data).getLsbD 0 = true := by
  have bit0 : (crcWork Config.crcPolyLiteral Config.crcLoopLow data).getLsbD 0 = false :=
    crcWork_getLsbD_zero _ Nat.one_pos data
  rw [crc8, crcResult, BitVec.getLsbD_not, BitVec.getLsbD_extractLsb', bit0]
  rfl

theorem crc8_ne_zero (data : DataWord) : crc8 data ≠ 0#8 := by
  intro zero
  have odd := crc8_getLsbD_zero data
  simp [zero] at odd

/-- The test of the recomputed value always passes, so `CRCCHK` is the other test alone (R99). -/
theorem crcchk_eq_bne (data : DataWord) (crc : Byte) : crcchk data crc = (crc != 0#8) := by
  have passes : nz (crc8 data) = true := bne_iff_ne.mpr (crc8_ne_zero data)
  change (nz (crc8 data) && nz crc) = nz crc
  rw [passes, Bool.true_and]

/-- A check byte that is not 0 is valid for every DataWord, equal to the recomputed one or not. -/
theorem crcchk_of_ne_zero (data : DataWord) {crc : Byte} (h : crc ≠ 0#8) : crcchk data crc = true :=
  (crcchk_eq_bne data crc).trans (bne_iff_ne.mpr h)

theorem crcchk_zero (data : DataWord) : crcchk data 0#8 = false := crcchk_eq_bne data 0#8

/-- `nz` (R8) is the test that its argument differs from 0. -/
theorem nz_eq_decide (a : Byte) : nz a = decide (a ≠ 0#8) := by
  rw [Bool.eq_iff_iff, decide_eq_true_iff]
  exact bne_iff_ne

/-- The decided policy is the AND of the two nonzero tests (R98, R100). -/
theorem crcchk_eq_and (data : DataWord) (crc : Byte) :
    crcchk data crc = (decide (crc8 data ≠ 0#8) && decide (crc ≠ 0#8)) := by
  rw [← nz_eq_decide, ← nz_eq_decide]
  rfl

/-- Settles O14: the policy by `crcchk_eq_and`; that the first test always passes, by `crc8_ne_zero`. -/
theorem crcchkIsTheAndOfTwoNonzeroTests : Obligations.CrcchkIsTheAndOfTwoNonzeroTests := by
  refine ⟨fun data crc s => ?_, fun _ _ => rfl, crcchk_zero, fun data _ => crcchk_of_ne_zero data,
    fun data => crcchk_of_ne_zero data (crc8_ne_zero data), crcchk_of_ne_zero _ (by decide),
    crcchk_of_ne_zero _ (by decide), crcchk_zero _⟩
  rw [exec_crcchk, crcchk_eq_and]

end Sys2Proof.Machine
end

section
/-! PROOF. The statement about `FRAME` (spec/41_frame_codec.md R110). Its two facts beyond the split of a
DataWord into bytes: the bytes put together again are the DataWord (R72), and the check byte is affine over
exclusive or (R94), so a change of the DataWord whose own check byte is that of 0 changes none (R95 c). -/

namespace Sys2Proof.Machine

/-! ### The check byte over exclusive or -/

/-- The exclusive or that iteration `i` makes depends on the bit it tests alone (R91). -/
theorem crcStep_eq_xor (poly w : Word32) (i : Nat) :
    crcStep poly w i = w ^^^ bif w.getLsbD (i + 8) then poly <<< i else 0#32 := by
  unfold crcStep
  cases w.getLsbD (i + 8) <;> simp

/-- One choice made by `a ^^ b` is the choices made by `a` and by `b` together. -/
theorem cond_xor_zero (a b : Bool) (p : Word32) :
    (bif a ^^ b then p else 0#32) = (bif a then p else 0#32) ^^^ bif b then p else 0#32 := by
  cases a <;> cases b <;> simp

theorem crcStep_xor (poly v w : Word32) (i : Nat) :
    crcStep poly (v ^^^ w) i = crcStep poly v i ^^^ crcStep poly w i := by
  simp only [crcStep_eq_xor, BitVec.getLsbD_xor, cond_xor_zero]
  ac_rfl

theorem crcLoop_xor (poly : Word32) (low n : Nat) (v w : Word32) :
    crcLoop poly low n (v ^^^ w) = crcLoop poly low n v ^^^ crcLoop poly low n w := by
  induction n generalizing v w with
  | zero => rfl
  | succ n ih => rw [crcLoop, crcStep_xor, ih]; rfl

theorem crcWork_xor (poly : Word32) (low : Nat) (x y : DataWord) :
    crcWork poly low (x ^^^ y) = crcWork poly low x ^^^ crcWork poly low y := by
  simp only [crcWork, BitVec.setWidth_xor, BitVec.shiftLeft_xor_distrib, crcLoop_xor]

/-- The complement at the end of R90 is what makes the check byte affine and not linear. -/
theorem crcResult_xor (v w : Word32) :
    crcResult (v ^^^ w) = crcResult v ^^^ crcResult w ^^^ 0xFF#8 := by
  have ones : (0xFF#8 : Byte) = BitVec.allOnes 8 := rfl
  rw [crcResult, crcResult, crcResult, BitVec.extractLsb'_xor, ones, BitVec.xor_allOnes,
    BitVec.not_xor_left, BitVec.not_xor_right, BitVec.not_not]

/-- The affine identity of R94. -/
theorem crc8_xor (x y : DataWord) : crc8 (x ^^^ y) = crc8 x ^^^ crc8 y ^^^ 0xFF#8 := by
  rw [crc8, crcWork_xor, crcResult_xor]
  rfl

/-- A change whose own check byte is `0xFF`, that of 0, changes no check byte (R95 c). -/
theorem crc8_xor_eq_self (x : DataWord) {y : DataWord} (h : crc8 y = 0xFF#8) :
    crc8 (x ^^^ y) = crc8 x := by
  rw [crc8_xor, h, BitVec.xor_assoc, BitVec.xor_self, BitVec.xor_zero]

/-! ### The Frame of a DataWord -/

/-- The four bytes of a Frame; the mask of R110 keeps all 24 bits. -/
theorem frameOf_eq (data : DataWord) :
    frameOf data = ⟨dataByte0 data, dataByte1 data, dataByte2 data, crc8 data⟩ := by
  rw [frameOf, truncData_eq]

@[simp] theorem frameOf_b3 (data : DataWord) : (frameOf data).b3 = crc8 data := by
  rw [frameOf_eq]

/-- The three bytes of a DataWord put together again are the DataWord (R72). -/
theorem dataOfBytes_dataBytes (data : DataWord) :
    dataOfBytes (dataByte0 data) (dataByte1 data) (dataByte2 data) = data := by
  have high : dataByte0 data ++ dataByte1 data = data.extractLsb' 8 16 :=
    BitVec.extractLsb'_append_extractLsb'_eq_extractLsb' (x := data) rfl
  have whole : data.extractLsb' 8 16 ++ dataByte2 data = data.extractLsb' 0 24 :=
    BitVec.extractLsb'_append_extractLsb'_eq_extractLsb' (x := data) rfl
  rw [dataOfBytes, high]
  exact whole.trans BitVec.extractLsb'_eq_self

/-- The image of a Frame is the DataWord followed by its check byte. -/
theorem frameOf_image (data : DataWord) : (frameOf data).image = data ++ crc8 data :=
  calc (frameOf data).image
    _ = dataOfBytes (dataByte0 data) (dataByte1 data) (dataByte2 data) ++ crc8 data := by
      rw [frameOf_eq]; rfl
    _ = data ++ crc8 data := by rw [dataOfBytes_dataBytes]

/-- The corner cases and the worked example of R110, from the check bytes of R90. -/
theorem frameOf_examples :
    frameOf 0 = ⟨0x00, 0x00, 0x00, 0xFF⟩ ∧ frameOf 0xFFFFFF = ⟨0xFF, 0xFF, 0xFF, 0x0F⟩ ∧
    frameOf 0x123456 = ⟨0x12, 0x34, 0x56, 0x13⟩ := by
  decide +kernel

/-- Settles O16: the image by `frameOf_image`; bits 0 and 14 do not reach the check byte, because the
DataWord that has that bit alone has the check byte of 0 (`crc8_xor_eq_self`). -/
theorem frameIsBigEndianDataThenCheckByte : Obligations.FrameIsBigEndianDataThenCheckByte := by
  obtain ⟨zero, ones, worked⟩ := frameOf_examples
  have bit0 : crc8 0x000001#24 = 0xFF#8 := by decide +kernel
  have bit14 : crc8 0x004000#24 = 0xFF#8 := by decide +kernel
  refine ⟨fun data s => ?_, fun data => ?_, fun _ => rfl, zero, ones, fun data => ⟨?_, ?_⟩, worked, ?_⟩
  · rw [exec_frame, frameOf_eq]
    rfl
  · rw [frameOf_image]
    exact (BitVec.setWidth_eq _).symm.trans BitVec.setWidth_append_eq_shiftLeft_setWidth_or
  · rw [frameOf_b3, frameOf_b3, crc8_xor_eq_self data bit0]
  · rw [frameOf_b3, frameOf_b3, crc8_xor_eq_self data bit14]
  · rw [worked]
    rfl

end Sys2Proof.Machine
end

section
/-! PROOF. The transfer coordinator (spec/42_transfer_coordinator.md): the nine micro-operations (R122 to
R130), the two completion events (R131, R132) and the halt (R133), each with what it leaves unchanged. A
micro-operation row runs its micro-operation as soon as its guard passes; a handler runs as soon as its
line is armed. So each statement is the guard's lemma and the one equation that says what is performed. -/

namespace Sys2Proof.Machine

variable {s t : State}

/-! ### The main loop -/

/-- A running block performs the micro-operation row that `mlPhase` names (R58 a, R77, R82); what it
performs is the update `microOp_eq` gives for the phase. -/
theorem exec_phaseInstr_selected (p : Phase) (data : DataWord) (running : s.halted = false)
    (selected : s.mlPhase = p.code) (performed : microOp p data s = t) :
    exec (p.instr data) s = .next t := by
  rw [exec_phaseInstr, whenSelected_selected running selected, performed]

/-- Settles O20: the mask of R122 keeps all 24 bits, so the bytes are those of `frameOf_eq`. -/
theorem mlBuildLoadsTheFrame : Obligations.MlBuildLoadsTheFrame := by
  refine ⟨fun s data running phase => ?_, by decide +kernel⟩
  have built := exec_phaseInstr_selected .build data running phase (microOp_eq .build data)
  rw [frameOf_eq] at built
  exact built

/-- Settles O21: the one read of `transmitReady` selects the phase. -/
theorem mlArmtestBranchesOnTransmitReady : Obligations.MlArmtestBranchesOnTransmitReady := by
  intro s running phase
  exact exec_phaseInstr_selected .armtest 0 running phase (microOp_eq .armtest 0)

/-- Settles O22: `TXEV` is enabled after it because the block still runs. -/
theorem mlArmArmsTheTransmitLine : Obligations.MlArmArmsTheTransmitLine := by
  intro s running phase
  have armed := exec_phaseInstr_selected .arm 0 running phase (microOp_eq .arm 0)
  exact ⟨_, armed, by simp [State.txEnabled, running], rfl⟩

/-- Settles O23: the one read of `receiveReady` selects the phase. -/
theorem mlRxtestBranchesOnReceiveReady : Obligations.MlRxtestBranchesOnReceiveReady := by
  intro s running phase
  exact exec_phaseInstr_selected .rxtest 0 running phase (microOp_eq .rxtest 0)

/-- Settles O24: the one write of the row, with the next phase. -/
theorem mlRxclrClearsReceiveReady : Obligations.MlRxclrClearsReceiveReady := by
  intro s running phase
  exact exec_phaseInstr_selected .rxclr 0 running phase (microOp_eq .rxclr 0)

/-- The test of ML.CMP, byte by byte (R127). -/
theorem pairMatches_iff {cursor : Byte} {p : RxPair} :
    pairMatches cursor p = true ↔ p.rx0 = cursor ∧ p.rx1 = cursor + 1 := by
  simp [pairMatches, cursorNext]

/-- ML.CMP of a selected phase for either outcome of its test: the outcome goes to `matchReg`, to `curV`
and to the branch, and the test is on the cursor before the update (R127, R181). -/
theorem exec_mlCmp {matched : Bool} (running : s.halted = false) (phase : s.mlPhase = 5)
    (outcome : pairMatches s.expectedCursor s.rxFrame.value = matched) :
    exec .mlCmp s = .next { s with
      matchReg := ⟨matched, true⟩
      expectedCursor := Config.curV s.expectedCursor matched
      mlPhase := if matched then 7 else 6 } := by
  subst outcome
  exact exec_phaseInstr_selected .cmp 0 running phase (microOp_eq .cmp 0)

/-- Settles O25: the two clauses are the two outcomes of the test. -/
theorem mlCmpComparesWithTheCursor : Obligations.MlCmpComparesWithTheCursor := by
  intro s running phase
  refine ⟨fun hit => ?_, fun miss => ?_⟩
  · exact exec_mlCmp running phase (pairMatches_iff.2 hit)
  · exact exec_mlCmp running phase (Bool.eq_false_iff.2 (mt pairMatches_iff.1 miss))

/-- The counter wraps at its own width; the width is at least 1, so the 1 that is added is 1 (R25, R128). -/
theorem errorCount_add_one_toNat (count : BitVec Config.errcntW) :
    (count + 1).toNat = (count.toNat + 1) % 2 ^ Config.errcntW := by
  have one : (1 : BitVec Config.errcntW).toNat = 1 := BitVec.toNat_one (Nat.succ_pos _)
  rw [BitVec.toNat_add, one]

/-- Settles O27: the count by `errorCount_add_one_toNat`. -/
theorem mlErrincCountsModuloTheWidth : Obligations.MlErrincCountsModuloTheWidth := by
  intro s running phase
  have counted := exec_phaseInstr_selected .errinc 0 running phase (microOp_eq .errinc 0)
  exact ⟨_, counted, rfl, errorCount_add_one_toNat s.errorCount⟩

/-- Settles O28: the write tests nothing, so a flag that is already 1 stays 1. -/
theorem mlTxrdySetsTransmitReady : Obligations.MlTxrdySetsTransmitReady := by
  intro s running phase
  exact exec_phaseInstr_selected .txrdy 0 running phase (microOp_eq .txrdy 0)

/-- Settles O29: `RXEV` is not enabled after it because its line is disarmed. -/
theorem mlRxdisDisarmsTheReceiveLine : Obligations.MlRxdisDisarmsTheReceiveLine := by
  intro s running phase
  have disarmed := exec_phaseInstr_selected .rxdis 0 running phase (microOp_eq .rxdis 0)
  exact ⟨_, disarmed, rfl, rfl⟩

/-! ### The completion events -/

/-- In a running block an event whose line is armed is its handler (R58 c, d, R188, R189). -/
theorem takeEvent_armed {r : Refusal} {handler : State → State} (running : s.halted = false) :
    takeEvent true r handler s = .next (handler s) :=
  whenRunning_running running

/-- In a running block an event whose line is disarmed cannot fire (R58 c, d, R80 d). -/
theorem takeEvent_disarmed {r : Refusal} {handler : State → State} (running : s.halted = false) :
    takeEvent false r handler s = .refused r :=
  whenRunning_running running

/-- A halted block takes no event, whatever its line (R58 a, R80 d). -/
theorem takeEvent_halted {armed : Bool} {r : Refusal} {handler : State → State}
    (halted : s.halted = true) : takeEvent armed r handler s = .refused .halted :=
  whenRunning_halted halted

theorem exec_txev_armed (running : s.halted = false) (armed : s.txIntArmed = true) :
    exec .txev s = .next (txHandler s) := by
  rw [exec, execTxev, armed, takeEvent_armed running]

theorem exec_txev_disarmed (running : s.halted = false) (disarmed : s.txIntArmed = false) :
    exec .txev s = .refused .transmitLineDisarmed := by
  rw [exec, execTxev, disarmed, takeEvent_disarmed running]

theorem exec_txev_halted (halted : s.halted = true) : exec .txev s = .refused .halted :=
  takeEvent_halted halted

/-- Before the first ML.BUILD the transmit line is disarmed (R38 e), so `TXEV` is refused, halted or
not. -/
theorem exec_txev_of_unwritten_frame (inv : Inv s) (unwritten : s.frame.written = false) :
    ∃ r : Refusal, exec .txev s = .refused r := by
  have disarmed : s.txIntArmed = false := by
    cases line : s.txIntArmed with
    | false => rfl
    | true => exact absurd (inv.armedFrame line) (by simp [unwritten])
  cases running : s.halted with
  | false => exact ⟨_, exec_txev_disarmed running disarmed⟩
  | true => exact ⟨_, exec_txev_halted running⟩

/-- Settles O33: the handler's equation `txHandler_eq` leaves the block running and the line disarmed, so
the second `TXEV` is refused. -/
theorem txevSendsTheFrameAndDisarms : Obligations.TxevSendsTheFrameAndDisarms := by
  refine ⟨fun s running armed => ?_, fun _ => exec_txev_disarmed, fun _ => exec_txev_halted,
    fun _ => exec_txev_of_unwritten_frame, rfl⟩
  have again : exec .txev (txHandler s) = .refused .transmitLineDisarmed := by
    rw [txHandler_eq]
    exact exec_txev_disarmed running rfl
  exact ⟨txHandler s, exec_txev_armed running armed, again, txHandler_eq⟩

theorem exec_rxev_armed (rx0 rx1 : Byte) (running : s.halted = false) (armed : s.rxIntArmed = true) :
    exec (.rxev rx0 rx1) s = .next (rxHandlerWith Config.curR rx0 rx1 s) := by
  rw [exec, execRxev, armed, takeEvent_armed running]

theorem exec_rxev_disarmed (rx0 rx1 : Byte) (running : s.halted = false)
    (disarmed : s.rxIntArmed = false) :
    exec (.rxev rx0 rx1) s = .refused .receiveLineDisarmed := by
  rw [exec, execRxev, disarmed, takeEvent_disarmed running]

theorem exec_rxev_halted (rx0 rx1 : Byte) (halted : s.halted = true) :
    exec (.rxev rx0 rx1) s = .refused .halted :=
  takeEvent_halted halted

/-- Settles O34: the handler's equation `rxHandlerWith_eq` touches neither the line nor `halted`, so the
event stays enabled. -/
theorem rxevStagesThePair : Obligations.RxevStagesThePair := by
  refine ⟨fun s rx0 rx1 running armed => ?_, fun _ => exec_rxev_disarmed, fun _ => exec_rxev_halted,
    fun _ _ => rfl⟩
  have enabled : (rxHandlerWith Config.curR rx0 rx1 s).rxEnabled = true := by
    rw [rxHandlerWith_eq]
    simp [State.rxEnabled, running, armed]
  exact ⟨_, exec_rxev_armed rx0 rx1 running armed, enabled, rxHandlerWith_eq⟩

/-! ### The halt -/

/-- `HALT` of a running block raises `FatalHalt`, which writes `halted` alone (R133, R182). -/
theorem exec_halt_running (running : s.halted = false) :
    exec .halt s = .next { s with halted := true } := by
  rw [exec, execHalt, whenRunning_running running, raiseFailure_fatalHalt]

theorem exec_halt_halted (halted : s.halted = true) : exec .halt s = .refused .halted :=
  whenRunning_halted halted

theorem exec_ml_halted (data : DataWord) (halted : s.halted = true) :
    exec (.ml data) s = .refused .halted :=
  whenRunning_halted halted

/-- `RESET` has no guard (R211). -/
theorem exec_reset (s : State) : exec .reset s = .next s.toReset := rfl

/-- A pure operation completes in every state, also when halted (R58 f). -/
theorem exec_pure_completes {i : Instr} (pure : isPure i = true) (s : State) :
    ∃ t : State, exec i s = .next t := by
  obtain ⟨r, -, returned⟩ := pureOperationsReadAndWriteNoState i pure
  exact ⟨_, returned s⟩

/-- Settles O35: every step but `RESET` and the pure operations stands under the guard of R58 a. -/
theorem haltFreezesTheBlock : Obligations.HaltFreezesTheBlock := by
  refine ⟨fun _ => exec_halt_running, rfl, fun s halted => ?_⟩
  exact ⟨fun data => exec_ml_halted data halted, exec_txev_halted halted,
    fun rx0 rx1 => exec_rxev_halted rx0 rx1 halted, exec_halt_halted halted, ⟨_, exec_reset s⟩,
    fun _ pure => exec_pure_completes pure s⟩

end Sys2Proof.Machine
end

section
/-! PROOF. Reset (spec/70_reset_and_hazards.md R211) and the registers that nothing has written since
(R214). The idea behind R214: the value of a register that may be unwritten is read at two places alone,
the Frame by TXEV and the received pair by ML.CMP. Two states that differ at most in unwritten values and
agree on these two reads have the same outcome, which is never a fault. Under the invariant both registers
have been written where they are read; and every state agrees with itself, so no state faults. -/

namespace Sys2Proof.Machine

variable {s s' t : State}

/-! ### Reset -/

/-- The registers after `RESET` are those of the reset state; the schedule and the output are no
registers (R211). -/
theorem sameRegisters_reset_toReset (s : State) : SameRegisters State.reset s.toReset := rfl

/-- Settles O36: `RESET` has no guard, and `toReset` reads no register of the state it is applied to. -/
theorem resetInstallsTheResetValues : Obligations.ResetInstallsTheResetValues := by
  refine ⟨fun s => ⟨s.toReset, exec_reset s, ?_⟩, rfl⟩
  exact ⟨s.toReset_transmitReady, s.toReset_receiveReady, s.toReset_mlPhase, s.toReset_halted,
    s.toReset_errorCount, s.toReset_txIntArmed, s.toReset_rxIntArmed, s.toReset_expectedCursor,
    s.toReset_drvTrace, congrArg Latch.written s.toReset_dataWord,
    congrArg Latch.written s.toReset_frame, congrArg Latch.written s.toReset_rxFrame,
    congrArg Latch.written s.toReset_matchReg, sameRegisters_reset_toReset s⟩

/-! ### States that differ at most in unwritten values -/

theorem Latch.SameOnceWritten.refl {α : Type} (l : Latch α) : l.SameOnceWritten l :=
  ⟨rfl, fun _ => rfl⟩

theorem SameButUnwritten.refl (s : State) : SameButUnwritten s s :=
  ⟨.refl _, .refl _, .refl _, .refl _, rfl⟩

/-- The second state is the first with four other latches, so an update of both is again such a pair as
soon as its latches are. -/
theorem SameButUnwritten.exists_latches (same : SameButUnwritten s s') :
    ∃ d f r m, s.dataWord.SameOnceWritten d ∧ s.frame.SameOnceWritten f ∧
      s.rxFrame.SameOnceWritten r ∧ s.matchReg.SameOnceWritten m ∧
      s' = { s with dataWord := d, frame := f, rxFrame := r, matchReg := m } :=
  ⟨_, _, _, _, same.dataWord, same.frame, same.rxFrame, same.matchReg, same.rest⟩

theorem SameButUnwritten.mlPhase (same : SameButUnwritten s s') : s'.mlPhase = s.mlPhase :=
  (congrArg State.mlPhase same.rest :)

theorem SameButUnwritten.halted (same : SameButUnwritten s s') : s'.halted = s.halted :=
  (congrArg State.halted same.rest :)

theorem SameButUnwritten.txIntArmed (same : SameButUnwritten s s') : s'.txIntArmed = s.txIntArmed :=
  (congrArg State.txIntArmed same.rest :)

theorem SameButUnwritten.rxIntArmed (same : SameButUnwritten s s') : s'.rxIntArmed = s.rxIntArmed :=
  (congrArg State.rxIntArmed same.rest :)

theorem SameButUnwritten.stim (same : SameButUnwritten s s') : s'.stim = s.stim :=
  (congrArg State.stim same.rest :)

/-! ### Updates that read none of the four registers -/

theorem SameButUnwritten.take (same : SameButUnwritten s s') (rest : List Record) :
    SameButUnwritten (s.take rest) (s'.take rest) :=
  ⟨same.dataWord, same.frame, same.rxFrame, same.matchReg, congrArg (State.take · rest) same.rest⟩

theorem SameButUnwritten.returns (same : SameButUnwritten s s') (r : StepResult) :
    SameButUnwritten (s.returns r) (s'.returns r) :=
  ⟨same.dataWord, same.frame, same.rxFrame, same.matchReg, congrArg (State.returns · r) same.rest⟩

theorem SameButUnwritten.drv (same : SameButUnwritten s s') (c : DrvCmd) :
    SameButUnwritten (s.drv c) (s'.drv c) :=
  ⟨same.dataWord, same.frame, same.rxFrame, same.matchReg, congrArg (State.drv · c) same.rest⟩

theorem SameButUnwritten.setHalted (same : SameButUnwritten s s') :
    SameButUnwritten s.setHalted s'.setHalted :=
  ⟨same.dataWord, same.frame, same.rxFrame, same.matchReg, congrArg State.setHalted same.rest⟩

/-- `RESET` marks all four registers as not written and gives each one value, whatever it held (R211). -/
theorem SameButUnwritten.toReset (same : SameButUnwritten s s') :
    SameButUnwritten s.toReset s'.toReset :=
  ⟨.refl _, .refl _, .refl _, .refl _, (congrArg State.toReset same.rest :)⟩

/-- A receive event overwrites the pair and reads none of the four registers (R132). -/
theorem SameButUnwritten.rxHandler (same : SameButUnwritten s s') (curR : Byte → Byte) (rx0 rx1 : Byte) :
    SameButUnwritten (rxHandlerWith curR rx0 rx1 s) (rxHandlerWith curR rx0 rx1 s') := by
  obtain ⟨d, f, r, m, dataWord, frame, -, matchReg, rfl⟩ := same.exists_latches
  rw [rxHandlerWith_eq, rxHandlerWith_eq]
  exact ⟨dataWord, frame, .refl _, matchReg, rfl⟩

/-! ### The two reads -/

/-- The states differ at most in unwritten values, and in none that an operation reads: the Frame, which
`TXEV` reads under an armed line (R131), and the pair, which ML.CMP reads in its phase (R127). -/
structure AgreeOnReads (s s' : State) : Prop where
  same : SameButUnwritten s s'
  sentFrame : s.txIntArmed = true → s'.frame.value = s.frame.value
  comparedPair : s.mlPhase = Phase.cmp.code → s'.rxFrame.value = s.rxFrame.value

theorem AgreeOnReads.refl (s : State) : AgreeOnReads s s :=
  ⟨.refl s, fun _ => rfl, fun _ => rfl⟩

/-- R214: under the invariant both registers have been written where they are read. -/
theorem Inv.agreeOnReads (inv : Inv s) (same : SameButUnwritten s s') : AgreeOnReads s s' where
  same := same
  sentFrame armed := same.frame.value (inv.armedFrame armed)
  comparedPair phase := same.rxFrame.value (inv.validatedPair (.inr phase))

theorem AgreeOnReads.take (agree : AgreeOnReads s s') (rest : List Record) :
    AgreeOnReads (s.take rest) (s'.take rest) :=
  ⟨agree.same.take rest, agree.sentFrame, agree.comparedPair⟩

/-- The transmit event reads the Frame (R131). -/
theorem AgreeOnReads.txHandler (agree : AgreeOnReads s s') (armed : s.txIntArmed = true) :
    SameButUnwritten (txHandler s) (txHandler s') := by
  have sent := agree.sentFrame armed
  obtain ⟨d, f, r, m, dataWord, frame, rxFrame, matchReg, rfl⟩ := agree.same.exists_latches
  rw [txHandler_eq, txHandler_eq, sent]
  exact ⟨dataWord, frame, rxFrame, matchReg, rfl⟩

/-- ML.BUILD overwrites two of the four registers, ML.CMP reads the pair and overwrites `matchReg`, and the
other micro-operations neither read nor write any of the four (R122 to R130). -/
theorem AgreeOnReads.microOp (agree : AgreeOnReads s s') {p : Phase} (phase : s.mlPhase = p.code)
    (data : DataWord) : SameButUnwritten (microOp p data s) (microOp p data s') := by
  have compared := agree.comparedPair
  obtain ⟨d, f, r, m, dataWord, frame, rxFrame, matchReg, rfl⟩ := agree.same.exists_latches
  rw [microOp_eq, microOp_eq]
  cases p with
  | build => exact ⟨.refl _, .refl _, rxFrame, matchReg, rfl⟩
  | cmp =>
    have pair : r.value = s.rxFrame.value := compared phase
    simp only [pair]
    exact ⟨dataWord, frame, rxFrame, .refl _, rfl⟩
  | _ => exact ⟨dataWord, frame, rxFrame, matchReg, rfl⟩

/-! ### Outcomes that are the same -/

/-- Both complete, in states that differ at most in unwritten values, or both are refused for one reason.
No constructor speaks of a fault, so an outcome that is the same as any other is none. -/
inductive SameOutcome : Out → Out → Prop where
  | next {t t' : State} (same : SameButUnwritten t t') : SameOutcome (.next t) (.next t')
  | refused (r : Refusal) : SameOutcome (.refused r) (.refused r)

theorem SameOutcome.ne_fault {o o' : Out} (same : SameOutcome o o') (f : Fault) : o ≠ .fault f := by
  cases same <;> nofun

theorem SameOutcome.exists_next {o o' : Out} (same : SameOutcome o o') (completes : o = .next t) :
    ∃ t' : State, o' = .next t' ∧ SameButUnwritten t t' := by
  subst completes
  cases same with
  | next states => exact ⟨_, rfl, states⟩

theorem SameOutcome.eq_refused {o o' : Out} {r : Refusal} (same : SameOutcome o o')
    (refuses : o = .refused r) : o' = .refused r := by
  subst refuses
  cases same
  rfl

/-- The guard of R58 a reads `halted` alone. -/
theorem SameButUnwritten.whenRunning {k k' : Out} (same : SameButUnwritten s s')
    (guarded : SameOutcome k k') : SameOutcome (whenRunning s k) (whenRunning s' k') := by
  cases running : s.halted with
  | false =>
    rwa [whenRunning_running running, whenRunning_running (same.halted.trans running)]
  | true =>
    rw [whenRunning_halted running, whenRunning_halted (same.halted.trans running)]
    exact .refused _

/-- The guard of an event reads its line besides; the handler runs only under an armed line. -/
theorem SameButUnwritten.takeEvent (same : SameButUnwritten s s') {armed : Bool} {r : Refusal}
    {handler : State → State} (handled : armed = true → SameButUnwritten (handler s) (handler s')) :
    SameOutcome (takeEvent armed r handler s) (takeEvent armed r handler s') := by
  refine same.whenRunning ?_
  cases armed with
  | false => exact .refused r
  | true => exact .next (handled rfl)

/-! ### Every operation, and every step -/

theorem AgreeOnReads.phaseInstr (agree : AgreeOnReads s s') (p : Phase) (data : DataWord) :
    SameOutcome (exec (p.instr data) s) (exec (p.instr data) s') := by
  rw [exec_phaseInstr, exec_phaseInstr, whenSelected, whenSelected, agree.same.mlPhase]
  refine agree.same.whenRunning ?_
  split
  next phase => exact .next (agree.microOp phase data)
  next => exact .refused _

theorem AgreeOnReads.ml (agree : AgreeOnReads s s') (data : DataWord) :
    SameOutcome (exec (.ml data) s) (exec (.ml data) s') := by
  rw [exec, exec, execMl, execMl, agree.same.mlPhase]
  refine agree.same.whenRunning ?_
  cases phase : phaseOf s.mlPhase with
  | some p => exact .next (agree.microOp (code_of_phaseOf phase) data)
  | none => exact .refused _

/-- `RECV` tests its own count and no register (U4, R162). -/
theorem SameButUnwritten.recv (same : SameButUnwritten s s') (count : Word32) :
    SameOutcome (exec (.recv count) s) (exec (.recv count) s') := by
  rw [exec, exec, execRecv, execRecv]
  split
  · exact .next (same.drv _)
  · exact .refused _

/-- No operation tells the two states apart. -/
theorem AgreeOnReads.exec (agree : AgreeOnReads s s') (i : Instr) :
    SameOutcome (exec i s) (exec i s') := by
  have same := agree.same
  cases i with
  | crc8 _ | crcchk _ _ | frame _ | pack12 _ _ => exact .next (same.returns _)
  | ml data => exact agree.ml data
  | txev =>
    rw [Machine.exec, Machine.exec, execTxev, execTxev, same.txIntArmed]
    exact same.takeEvent agree.txHandler
  | rxev rx0 rx1 =>
    rw [Machine.exec, Machine.exec, execRxev, execRxev, same.rxIntArmed]
    exact same.takeEvent fun _ => same.rxHandler Config.curR rx0 rx1
  | halt => exact same.whenRunning (.next same.setHalted)
  | reset => exact .next same.toReset
  | mlBuild data => exact agree.phaseInstr .build data
  | mlArmtest => exact agree.phaseInstr .armtest 0
  | mlArm => exact agree.phaseInstr .arm 0
  | mlRxtest => exact agree.phaseInstr .rxtest 0
  | mlRxclr => exact agree.phaseInstr .rxclr 0
  | mlCmp => exact agree.phaseInstr .cmp 0
  | mlErrinc => exact agree.phaseInstr .errinc 0
  | mlTxrdy => exact agree.phaseInstr .txrdy 0
  | mlRxdis => exact agree.phaseInstr .rxdis 0
  | recv count => exact same.recv count
  | send _ _ _ _ | armtx | distx | armrx | disrx | acktx | ackrx => exact .next (same.drv _)

/-- The environment presents the same record to both states (R83), and its operation does not
tell them apart. -/
theorem AgreeOnReads.step (agree : AgreeOnReads s s') : SameOutcome (step s) (step s') := by
  rw [Machine.step, Machine.step, fetch, fetch, agree.same.stim]
  cases s.stim with
  | nil => exact .next agree.same
  | cons r rest =>
    cases decoded : decodeRecord r with
    | ok i => simpa only [decoded] using (agree.take rest).exec i
    | error e => simpa only [decoded] using SameOutcome.refused (.reserved e)

/-- Settles O49: the invariant makes the two states agree on the two reads (`Inv.agreeOnReads`); that
nothing faults is the case of a state beside itself. -/
theorem noStepReadsAnUnwrittenRegister : Obligations.NoStepReadsAnUnwrittenRegister := by
  refine ⟨fun s s' inv same => ?_, fun i s => ((AgreeOnReads.refl s).exec i).ne_fault,
    fun s => (AgreeOnReads.refl s).step.ne_fault⟩
  have outcome := (inv.agreeOnReads same).step
  exact ⟨fun _ => outcome.exists_next, fun _ => outcome.eq_refused⟩

end Sys2Proof.Machine
end

section
/-! PROOF. Decoding and encoding (spec/30_encoding.md R75 to R80). The two share five operand forms and one
shape of command, so each round trip is proved once per form; a step code then only has to name its form.
The encoder also tells the three code spaces apart: what encodes to a record is neither a command nor a
micro-operation. -/

namespace Sys2Proof

variable {r : Record} {c : Nibble} {o : Word32} {i j : Instr} {mkD : DataWord → Instr}
  {mkF : DataWord → Byte → Instr} {mkR : Byte → Byte → Instr} {mkP : Word16 → Word16 → Instr}

/-! ### The operand forms: when each decodes, and to what (R75) -/

theorem decodeFormD_ok : decodeFormD mkD o = .ok i ↔ opndByte 0 o = 0#8 ∧ mkD (opndData o) = i := by
  by_cases zero : opndByte 0 o = 0#8 <;> simp [decodeFormD, zero]

theorem decodeFormF_ok : decodeFormF mkF o = .ok i ↔ mkF (opndData o) (opndByte 0 o) = i := by
  simp [decodeFormF]

theorem decodeFormR_ok :
    decodeFormR mkR o = .ok i ↔ o.extractLsb' 16 16 = 0#16 ∧ mkR (opndByte 1 o) (opndByte 0 o) = i := by
  by_cases zero : o.extractLsb' 16 16 = 0#16 <;> simp [decodeFormR, zero]

theorem decodeFormP_ok :
    decodeFormP mkP o = .ok i ↔ mkP (o.extractLsb' 16 16) (o.extractLsb' 0 16) = i := by
  simp [decodeFormP]

theorem decodeFormN_ok : decodeFormN j o = .ok i ↔ o = 0#32 ∧ j = i := by
  by_cases zero : o = 0#32 <;> simp [decodeFormN, zero]

/-- A command whose payload is fixed decodes with that payload alone (R78). -/
theorem decodeFixedPayload_ok {want : Word32} :
    decodeFixedPayload c j want o = .ok i ↔ o = want ∧ j = i := by
  by_cases fixed : o = want <;> simp [decodeFixedPayload, fixed]

/-- A phase code decodes to the micro-operation it is the code of, with the data of an `ML` record (R77). -/
theorem decodePhase_ok : decodePhase c r = .ok i ↔
    ∃ (p : Phase) (data : DataWord), decodeRecord r = .ok (.ml data) ∧ c = p.code ∧ p.instr data = i := by
  constructor
  · intro h
    unfold decodePhase at h
    split at h
    next data ml =>
      cases named : phaseOf c with
      | some p => exact ⟨p, data, ml, Machine.code_of_phaseOf named, by simpa [named] using h⟩
      | none => simp [named] at h
    next => cases h
    next => cases h
  · rintro ⟨p, data, ml, rfl, rfl⟩
    simp [decodePhase, ml]

/-! ### Decoding what was encoded -/

/-- The bytes of an operand that was put together from four bytes (R78). -/
theorem opndByte_append (b0 b1 b2 b3 : Byte) :
    opndByte 3 (b0 ++ b1 ++ b2 ++ b3) = b0 ∧ opndByte 2 (b0 ++ b1 ++ b2 ++ b3) = b1 ∧
    opndByte 1 (b0 ++ b1 ++ b2 ++ b3) = b2 ∧ opndByte 0 (b0 ++ b1 ++ b2 ++ b3) = b3 := by
  have skip {n : Nat} (hi : BitVec n) (b : Byte) (k : Nat) :
      (hi ++ b).extractLsb' (8 * (k + 1)) 8 = hi.extractLsb' (8 * k) 8 :=
    BitVec.extractLsb'_append_eq_of_le (by omega)
  have low {n : Nat} (hi : BitVec n) (b : Byte) : (hi ++ b).extractLsb' (8 * 0) 8 = b :=
    BitVec.extractLsb'_append_eq_right (a := hi) (b := b)
  refine ⟨?_, ?_, ?_, low _ _⟩
  · exact (skip _ _ 2).trans ((skip _ _ 1).trans ((skip _ _ 0).trans (by simp)))
  · exact (skip _ _ 1).trans ((skip _ _ 0).trans (low _ _))
  · exact (skip _ _ 0).trans (low _ _)

/-- The encoding of a micro-operation carries its data in `BUILD` alone (R76, R77). -/
theorem encode_phaseInstr (p : Phase) (data : DataWord) :
    encode (p.instr data) = .phase p.code (mlRecord (if p = .build then data else 0)) := by
  cases p <;> rfl

/-- Outside `BUILD` the data does not enter the micro-operation (R76, R121). -/
theorem phaseInstr_data {p : Phase} (data : DataWord) :
    p.instr (if p = .build then data else 0) = p.instr data := by
  cases p <;> rfl

theorem decode_encode_phaseInstr (p : Phase) (data : DataWord) :
    decode (encode (p.instr data)) = .ok (p.instr data) := by
  rw [encode_phaseInstr]
  exact decodePhase_ok.2 ⟨p, _, decodeRecord_mlRecord _, rfl, phaseInstr_data data⟩

/-- Settles O1: by the form of each row. -/
theorem decodeOfEncodeIsTheInstruction : Obligations.DecodeOfEncodeIsTheInstruction := by
  intro i wellFormed
  cases i with
  | crc8 d | frame d | ml d => simp [encode, mlRecord, decode, decodeRecord, decodeFormD_ok]
  | crcchk d b => simp [encode, decode, decodeRecord, decodeFormF_ok]
  | rxev a b =>
    obtain ⟨-, -, rx0, rx1⟩ := opndByte_append 0 0 a b
    have zero : (0#16 ++ a ++ b : Word32).extractLsb' 16 16 = 0 := by
      rw [zero_append_bytes, highHalf_append]
      rfl
    simp [encode, decode, decodeRecord, decodeFormR_ok, zero]
    exact ⟨rx0, rx1⟩
  | pack12 a b => simp [encode, decode, decodeRecord, decodeFormP_ok]
  | txev | halt | reset => rfl
  | mlBuild d => exact decode_encode_phaseInstr .build d
  | mlArmtest => exact decode_encode_phaseInstr .armtest 0
  | mlArm => exact decode_encode_phaseInstr .arm 0
  | mlRxtest => exact decode_encode_phaseInstr .rxtest 0
  | mlRxclr => exact decode_encode_phaseInstr .rxclr 0
  | mlCmp => exact decode_encode_phaseInstr .cmp 0
  | mlErrinc => exact decode_encode_phaseInstr .errinc 0
  | mlTxrdy => exact decode_encode_phaseInstr .txrdy 0
  | mlRxdis => exact decode_encode_phaseInstr .rxdis 0
  | send b0 b1 b2 b3 => simp [encode, decode, decodeCommand, opndByte_append]
  | recv count =>
    obtain rfl : count = 2 := by simpa [Instr.WellFormed, Instr.recvCountOk] using wellFormed
    rfl
  | armtx | distx | armrx | disrx | acktx | ackrx => rfl

/-! ### Encoding what was decoded: each form puts its operand together again -/

/-- A record with its code named. -/
theorem makeRecord_of_code (code : recordCode r = c) : makeRecord c (recordOpnd r) = r := by
  rw [← code, makeRecord_fields]

theorem formD_put_together (zero : opndByte 0 o = 0) : opndOfData (opndData o) 0 = o := by
  rw [← zero, opndOfData_fields]

theorem formR_put_together (zero : o.extractLsb' 16 16 = 0) :
    (0#16 ++ opndByte 1 o ++ opndByte 0 o : Word32) = o :=
  calc (0#16 ++ opndByte 1 o ++ opndByte 0 o : Word32)
    _ = o.extractLsb' 16 16 ++ o.extractLsb' 0 16 := by
      rw [zero_append_bytes, lowBytes_append, zero]
      rfl
    _ = o := halves_append o

/-- A record that decodes is the encoding of what it decodes to (R75, R76). -/
theorem encode_of_decodeRecord (decoded : decodeRecord r = .ok i) : encode i = .record r := by
  unfold decodeRecord at decoded
  split at decoded
  case h_1 code | h_3 code | h_4 code =>
    obtain ⟨zero, rfl⟩ := decodeFormD_ok.1 decoded
    simp only [encode, mlRecord, formD_put_together zero]
    exact congrArg Encoding.record (makeRecord_of_code code)
  case h_2 code =>
    obtain rfl := decodeFormF_ok.1 decoded
    simp only [encode, opndOfData_fields]
    exact congrArg Encoding.record (makeRecord_of_code code)
  case h_6 code =>
    obtain ⟨zero, rfl⟩ := decodeFormR_ok.1 decoded
    simp only [encode, formR_put_together zero]
    exact congrArg Encoding.record (makeRecord_of_code code)
  case h_8 code =>
    obtain rfl := decodeFormP_ok.1 decoded
    simp only [encode, halves_append]
    exact congrArg Encoding.record (makeRecord_of_code code)
  case h_5 code | h_7 code | h_9 code =>
    obtain ⟨zero, rfl⟩ := decodeFormN_ok.1 decoded
    rw [← makeRecord_of_code code, zero]
    rfl
  case h_10 => cases decoded

/-- A driver command record that decodes is the encoding of what it decodes to (R78). -/
theorem encode_of_decodeCommand (decoded : decodeCommand r = .ok i) : encode i = .command r := by
  unfold decodeCommand at decoded
  split at decoded
  case h_1 code =>
    obtain rfl := Except.ok.inj decoded
    simp only [encode, bytes_append]
    exact congrArg Encoding.command (makeRecord_of_code code)
  case h_9 => cases decoded
  all_goals
    rename_i code
    obtain ⟨fixed, rfl⟩ := decodeFixedPayload_ok.1 decoded
    rw [← makeRecord_of_code code, fixed]
    rfl

/-- Settles O2: the records form by form; of a micro-operation only `BUILD` has the code 0, and its data is
that of the `ML` record. -/
theorem encodeOfDecodedRecordIsTheRecord : Obligations.EncodeOfDecodedRecordIsTheRecord := by
  refine ⟨fun _ _ => encode_of_decodeRecord, fun _ _ => encode_of_decodeCommand,
    fun code r i decoded => ?_⟩
  obtain ⟨p, data, ml, rfl, rfl⟩ := decodePhase_ok.1 decoded
  refine ⟨_, encode_phaseInstr p data, fun zero => ?_⟩
  obtain rfl : p = .build := by
    cases p with
    | build => rfl
    | _ => cases zero
  exact Encoding.record.inj (encode_of_decodeRecord ml)

/-! ### What decodes -/

/-- Settles O3: a code has a row or not, and its form decodes under its must-be-0 field. -/
theorem recordDecodesExactlyWhenNotReserved : Obligations.RecordDecodesExactlyWhenNotReserved := by
  intro r
  have lowByte : r.extractLsb' 0 8 = opndByte 0 (recordOpnd r) :=
    (BitVec.extractLsb'_extractLsb'_of_le (by decide)).symm
  have highHalf : r.extractLsb' 16 16 = (recordOpnd r).extractLsb' 16 16 :=
    (BitVec.extractLsb'_extractLsb'_of_le (by decide)).symm
  rw [lowByte, highHalf]
  change _ ↔ ((recordCode r = _ ∨ recordCode r = _ ∨ recordCode r = _) ∧ _) ∨ recordCode r = _ ∨
    (recordCode r = _ ∧ _) ∨ recordCode r = _ ∨
    (recordCode r = _ ∨ recordCode r = _ ∨ recordCode r = _) ∧ recordOpnd r = _
  unfold decodeRecord
  split
  case h_1 code | h_3 code | h_4 code => simp [code, decodeFormD_ok]
  case h_2 code => simp [code, decodeFormF_ok]
  case h_6 code => simp [code, decodeFormR_ok]
  case h_8 code => simp [code, decodeFormP_ok]
  case h_5 code | h_7 code | h_9 code => simp [code, decodeFormN_ok]
  case h_10 => simp_all

/-- The encoding of a driver command is in the code space of commands (R78). -/
theorem encode_ne_record_of_isCommand (command : Machine.isCommand i = true) :
    encode i ≠ .record r := by
  cases i with
  | send _ _ _ _ | recv _ | armtx | distx | armrx | disrx | acktx | ackrx => nofun
  | _ => cases command

/-- Settles O6: a record encodes neither a command nor a micro-operation, whose encodings are in the other
two code spaces. -/
theorem recordsNeverDecodeToCommands : Obligations.RecordsNeverDecodeToCommands := by
  intro r i decoded
  have encoded := encode_of_decodeRecord decoded
  refine ⟨Bool.eq_false_iff.2 fun command => encode_ne_record_of_isCommand command encoded, ?_⟩
  rintro p data rfl
  rw [encode_phaseInstr] at encoded
  cases encoded

/-- `RECV` is the one instruction whose well-formedness asks for anything, and it is a command (R162). -/
theorem wellFormed_of_not_isCommand (plain : Machine.isCommand i = false) : i.WellFormed := by
  cases i with
  | recv _ => cases plain
  | _ => rfl

theorem isCommand_phaseInstr (p : Phase) (data : DataWord) :
    Machine.isCommand (p.instr data) = false := by
  cases p <;> rfl

/-- The payload of a `RECV` that decodes is 2 (R78). -/
theorem wellFormed_of_decodeCommand (decoded : decodeCommand r = .ok i) : i.WellFormed := by
  unfold decodeCommand at decoded
  split at decoded
  case h_1 => obtain rfl := Except.ok.inj decoded; rfl
  case h_9 => cases decoded
  all_goals
    obtain ⟨-, rfl⟩ := decodeFixedPayload_ok.1 decoded
    rfl

/-- Settles O4: records and phase codes decode to no command, and a command by its fixed payload. -/
theorem decodedIsWellFormed : Obligations.DecodedIsWellFormed := by
  intro e i decoded
  cases e with
  | record r => exact wellFormed_of_not_isCommand (recordsNeverDecodeToCommands r i decoded).1
  | phase code r =>
    obtain ⟨p, data, -, -, rfl⟩ := decodePhase_ok.1 decoded
    exact wellFormed_of_not_isCommand (isCommand_phaseInstr p data)
  | command r => exact wellFormed_of_decodeCommand decoded

/-- Settles O5: closed words. -/
theorem specWordsDecode : Obligations.SpecWordsDecode := by
  unfold Obligations.SpecWordsDecode
  decide

end Sys2Proof
end

section
/-! PROOF. The statements that compare check bytes (spec/40_crc.md R92, R94 to R96, R99; R113). The working
value of a division is additive over exclusive or, so every function of a DataWord that the rules compare
here is affine, and two affine functions are equal when they agree on 0 and on the 24 DataWords with one bit
set: the columns of R94. -/

namespace Sys2Proof.Machine

variable {n : Nat} {f g : DataWord → BitVec n}

/-! ### Affine functions of a DataWord -/

/-- The identity that R94 states of `CRC8`, of any function of a DataWord. -/
def IsAffine (f : DataWord → BitVec n) : Prop := ∀ x y : DataWord, f (x ^^^ y) = f x ^^^ f y ^^^ f 0#24

theorem IsAffine.const (c : BitVec n) : IsAffine fun _ => c := fun _ _ => by simp

theorem IsAffine.xor (hf : IsAffine f) (hg : IsAffine g) : IsAffine fun x => f x ^^^ g x := by
  intro x y
  simp only [hf x y, hg x y]
  ac_rfl

theorem IsAffine.of_additive (additive : ∀ x y, f (x ^^^ y) = f x ^^^ f y) : IsAffine f := by
  intro x y
  have zero : f 0#24 = 0#n := by simpa using additive 0#24 0#24
  rw [additive, zero, BitVec.xor_zero]

/-- One choice by `p ^^ q` on an exclusive or is the choices by `p` and by `q` on its parts. -/
theorem ite_xor_xor (p q : Bool) (a b c : BitVec n) :
    (if (p ^^ q) = true then a ^^^ b ^^^ c else a ^^^ b) =
      (if p = true then a ^^^ c else a) ^^^ if q = true then b ^^^ c else b := by
  have cancel : a ^^^ c ^^^ (b ^^^ c) = a ^^^ b ^^^ (c ^^^ c) := by ac_rfl
  cases p <;> cases q <;> simp [cancel] <;> ac_rfl

/-- A choice of a constant by a bit that is itself additive. -/
theorem IsAffine.ite {bit : DataWord → Bool} (additive : ∀ x y, bit (x ^^^ y) = (bit x ^^ bit y))
    (c : BitVec n) : IsAffine fun x => if bit x = true then c else 0#n := by
  refine .of_additive fun x y => ?_
  rw [additive]
  simpa using ite_xor_xor (bit x) (bit y) 0#n 0#n c

/-- The low `k + 1` bits of a DataWord are its low `k` bits and bit `k`. -/
theorem lowBits_succ (x : DataWord) (k : Nat) :
    (x.setWidth (k + 1)).setWidth 24 = (x.setWidth k).setWidth 24 ^^^
      if x.getLsbD k = true then BitVec.twoPow 24 k else 0#24 := by
  ext j hj
  grind

/-- An affine function is known from its value at 0 and its 24 columns. -/
theorem IsAffine.ext (hf : IsAffine f) (hg : IsAffine g) (zero : f 0#24 = g 0#24)
    (columns : ∀ k < 24, f (BitVec.twoPow 24 k) = g (BitVec.twoPow 24 k)) (x : DataWord) : f x = g x := by
  have agree : ∀ k ≤ 24, f ((x.setWidth k).setWidth 24) = g ((x.setWidth k).setWidth 24) := by
    intro k
    induction k with
    | zero =>
      intro _
      rw [BitVec.of_length_zero (x := x.setWidth 0)]
      exact zero
    | succ k ih =>
      intro bound
      rw [lowBits_succ, hf, hg, zero, ih (by omega)]
      split
      · rw [columns k (by omega)]
      · rw [zero]
  simpa using agree 24 le_rfl

/-! ### The functions of a DataWord that R90 to R96 name -/

/-- A check byte of any division, trimmed or not: the complement of a part of an additive working value. -/
theorem isAffine_crcResult (poly : Word32) (low : Nat) :
    IsAffine fun x => crcResult (crcWork poly low x) := by
  have zero : crcWork poly low 0#24 = 0#32 := by simpa using crcWork_xor poly low 0#24 0#24
  intro x y
  simp only [crcWork_xor, crcResult_xor, zero]
  rfl

theorem isAffine_crc8 : IsAffine crc8 := isAffine_crcResult _ _

theorem isAffine_crcFull : IsAffine crcFull := isAffine_crcResult _ _

theorem isAffine_crcWork_bits (poly : Word32) (low start len : Nat) :
    IsAffine fun x => (crcWork poly low x).extractLsb' start len :=
  .of_additive fun x y => by rw [crcWork_xor, BitVec.extractLsb'_xor]

/-- The exclusive or of the columns that the bits of a DataWord select (R94). -/
def columnSum (column : Nat → Byte) (x : DataWord) : Byte :=
  (List.range 24).foldl (fun acc k => if x.getLsbD k then acc ^^^ column k else acc) 0#8

theorem foldl_columns_xor (column : Nat → Byte) (x y : DataWord) (ks : List Nat) (a b : Byte) :
    ks.foldl (fun acc k => if (x ^^^ y).getLsbD k then acc ^^^ column k else acc) (a ^^^ b) =
      ks.foldl (fun acc k => if x.getLsbD k then acc ^^^ column k else acc) a ^^^
        ks.foldl (fun acc k => if y.getLsbD k then acc ^^^ column k else acc) b := by
  induction ks generalizing a b with
  | nil => rfl
  | cons k ks ih =>
    rw [List.foldl_cons, List.foldl_cons, List.foldl_cons, ← ih, BitVec.getLsbD_xor]
    exact congrArg (ks.foldl _) (ite_xor_xor ..)

theorem isAffine_columnSum (column : Nat → Byte) : IsAffine (columnSum column) :=
  .of_additive fun x y => foldl_columns_xor column x y _ 0#8 0#8

/-! ### The statements -/

/-- The 24 column constants of R94. -/
def crcColumn (k : Nat) : Byte :=
  [0x00, 0x06, 0x0A, 0x12, 0x22, 0x42, 0x82, 0x02, 0x04, 0x08, 0x10, 0x20,
    0x40, 0x80, 0x00, 0x06, 0x0A, 0x12, 0x22, 0x42, 0x82, 0x02, 0x04, 0x08].getD k 0

theorem crc8_eq_columnSum (data : DataWord) : crc8 data = 0xFF#8 ^^^ columnSum crcColumn data :=
  isAffine_crc8.ext ((IsAffine.const 0xFF#8).xor (isAffine_columnSum crcColumn)) (by decide +kernel)
    (by decide +kernel) data

/-- Settles O10: the closed form column by column; the identity is `crc8_xor`. -/
theorem crc8IsTheAffineColumnForm : Obligations.Crc8IsTheAffineColumnForm := by
  refine ⟨fun data s => ?_, crc8_xor⟩
  rw [exec_crc8, crc8_eq_columnSum]
  rfl

/-- A DataWord with the check byte `b`, where `b` is odd: bits 7 to 13 of a DataWord each flip one bit of the
check byte, bits 1 to 7, and are set here where `b` differs from the check byte `0xFF` of 0. -/
def preimageOfOdd (b : Byte) : DataWord := ((~~~b).extractLsb' 1 7).setWidth 24 <<< 7

/-- Settles O11: an odd byte is reached through the seven columns with one bit; bits 0 and 14 have the
column 0. -/
theorem crc8ResultsAreTheOddBytes : Obligations.Crc8ResultsAreTheOddBytes := by
  have bit0 : crc8 0x000001#24 = 0xFF#8 := by decide +kernel
  have bit14 : crc8 0x004000#24 = 0xFF#8 := by decide +kernel
  have reached : ∀ b : Byte, b.getLsbD 0 = true → crc8 (preimageOfOdd b) = b := by decide +kernel
  have sameColumns : ∀ k < 10, crc8 (1#24 <<< (k + 14)) = crc8 (1#24 <<< k) := by decide +kernel
  exact ⟨crc8_getLsbD_zero, fun b odd => ⟨preimageOfOdd b, reached b odd⟩,
    fun data => ⟨crc8_xor_eq_self data bit0, crc8_xor_eq_self data bit14⟩,
    fun k bound => sameColumns k (by omega), by decide +kernel⟩

/-- Settles O12: both sides of both equations are affine, so 24 columns decide. -/
theorem literalAndLeadingPolynomialAgree : Obligations.LiteralAndLeadingPolynomialAgree := by
  intro data
  constructor
  · exact (isAffine_crcResult _ _).ext isAffine_crc8 (by decide +kernel) (by decide +kernel) data
  · exact (isAffine_crcWork_bits _ _ 9 23).ext (.const 0#23) (by decide +kernel) (by decide +kernel) data

/-- Settles O13: bit 8 of the working value is additive, so the correction by it is affine. -/
theorem trimmedLoopAgainstUntrimmedDivision : Obligations.TrimmedLoopAgainstUntrimmedDivision := by
  refine ⟨fun data => ?_, by decide +kernel⟩
  have correction : IsAffine fun x =>
      if (crcWork Config.crcPolyLiteral Config.crcLoopLow x).getLsbD 8 = true then 0x83#8 else 0#8 :=
    .ite (fun x y => by rw [crcWork_xor, BitVec.getLsbD_xor]) _
  exact isAffine_crc8.ext (isAffine_crcFull.xor correction) (by decide +kernel) (by decide +kernel) data

/-- Settles O15: the test of the recomputed value always passes (`crcchk_eq_bne`). -/
theorem crcchkIgnoresTheData : Obligations.CrcchkIgnoresTheData := by
  intro data crc s
  rw [exec_crcchk, crcchk_eq_bne]

/-- Settles O17: the bytes put together again are the DataWord, and no check byte is 0. -/
theorem producedFramesPassCrcchk : Obligations.ProducedFramesPassCrcchk := by
  intro data s
  rw [exec_crcchk, frameOf_b3, crcchk_of_ne_zero _ (crc8_ne_zero data), frameOf_eq]
  exact ⟨dataOfBytes_dataBytes data, rfl⟩

end Sys2Proof.Machine
end

section
/-! PROOF. What an operation that completes has done, said once (`Performs`), and what follows for every
operation: the commands it issues (R169), the registers it may change (R39, R62), the buffers (R50), and what
a halted block still does (R38 c). Then the equations of single operations that remain: `ML` (R121), the
driver commands (R160 to R168), the named cursor policies (R134) and the reset state (R212). -/

namespace Sys2Proof.Machine

variable {s t : State} {i : Instr} (p : Phase) (data : DataWord)

/-! ### The registers after a micro-operation -/

/-- The phase a micro-operation goes on to (R122 to R130). -/
def nextPhase (p : Phase) (s : State) : Phase :=
  match p with
  | .build => .armtest
  | .armtest => if s.transmitReady then .arm else .rxtest
  | .arm => .rxtest
  | .rxtest => if s.receiveReady then .rxclr else .build
  | .rxclr => .cmp
  | .cmp => if pairMatches s.expectedCursor s.rxFrame.value then .txrdy else .errinc
  | .errinc => .build
  | .txrdy => .rxdis
  | .rxdis => .build

/-- The driver commands of a micro-operation (R169). -/
def microCommands : Phase → List DrvCmd
  | .arm => [.armtx]
  | .rxdis => [.disrx]
  | _ => []

@[simp] theorem microOp_mlPhase : (microOp p data s).mlPhase = (nextPhase p s).code := by
  rw [microOp_eq]
  cases p with
  | armtest | rxtest | cmp => simp only [nextPhase]; split <;> rfl
  | _ => rfl

@[simp] theorem microOp_dataWord :
    (microOp p data s).dataWord = if p = .build then ⟨data, true⟩ else s.dataWord := by
  rw [microOp_eq]; cases p <;> rfl

@[simp] theorem microOp_frame :
    (microOp p data s).frame = if p = .build then ⟨frameOf data, true⟩ else s.frame := by
  rw [microOp_eq]; cases p <;> rfl

@[simp] theorem microOp_rxFrame : (microOp p data s).rxFrame = s.rxFrame := by
  rw [microOp_eq]; cases p <;> rfl

@[simp] theorem microOp_expectedCursor :
    (microOp p data s).expectedCursor = if p = .cmp then
      Config.curV s.expectedCursor (pairMatches s.expectedCursor s.rxFrame.value)
      else s.expectedCursor := by
  rw [microOp_eq]; cases p <;> rfl

@[simp] theorem microOp_errorCount :
    (microOp p data s).errorCount = if p = .errinc then s.errorCount + 1 else s.errorCount := by
  rw [microOp_eq]; cases p <;> rfl

@[simp] theorem microOp_transmitReady :
    (microOp p data s).transmitReady = if p = .txrdy then true else s.transmitReady := by
  rw [microOp_eq]; cases p <;> rfl

@[simp] theorem microOp_receiveReady :
    (microOp p data s).receiveReady = if p = .rxclr then false else s.receiveReady := by
  rw [microOp_eq]; cases p <;> rfl

@[simp] theorem microOp_matchReg :
    (microOp p data s).matchReg =
      if p = .cmp then ⟨pairMatches s.expectedCursor s.rxFrame.value, true⟩ else s.matchReg := by
  rw [microOp_eq]; cases p <;> rfl

@[simp] theorem microOp_halted : (microOp p data s).halted = s.halted := by
  rw [microOp_eq]; cases p <;> rfl

@[simp] theorem microOp_txIntArmed :
    (microOp p data s).txIntArmed = if p = .arm then true else s.txIntArmed := by
  rw [microOp_eq]; cases p <;> rfl

@[simp] theorem microOp_rxIntArmed :
    (microOp p data s).rxIntArmed = if p = .rxdis then false else s.rxIntArmed := by
  rw [microOp_eq]; cases p <;> rfl

@[simp] theorem microOp_drvTrace :
    (microOp p data s).drvTrace = s.drvTrace ++ microCommands p := by
  rw [microOp_eq]; cases p <;> simp [microCommands]

/-- Outside `BUILD` the presented data is not read (R76, R121). -/
theorem microOp_data {p : Phase} (later : p ≠ .build) (data data' : DataWord) :
    microOp p data s = microOp p data' s := by
  cases p with
  | build => exact absurd rfl later
  | _ => rfl

/-! ### The registers after a handler -/

section

variable {curR : Byte → Byte} {rx0 rx1 : Byte}

@[simp] theorem txHandler_transmitReady : (txHandler s).transmitReady = false := by
  rw [txHandler_eq]

@[simp] theorem txHandler_txIntArmed : (txHandler s).txIntArmed = false := by
  rw [txHandler_eq]

@[simp] theorem txHandler_rxIntArmed : (txHandler s).rxIntArmed = true := by
  rw [txHandler_eq]

@[simp] theorem txHandler_receiveReady : (txHandler s).receiveReady = s.receiveReady := by
  rw [txHandler_eq]

@[simp] theorem txHandler_rxFrame : (txHandler s).rxFrame = s.rxFrame := by
  rw [txHandler_eq]

@[simp] theorem txHandler_expectedCursor : (txHandler s).expectedCursor = s.expectedCursor := by
  rw [txHandler_eq]

@[simp] theorem txHandler_errorCount : (txHandler s).errorCount = s.errorCount := by
  rw [txHandler_eq]

@[simp] theorem txHandler_mlPhase : (txHandler s).mlPhase = s.mlPhase := by
  rw [txHandler_eq]

@[simp] theorem txHandler_halted : (txHandler s).halted = s.halted := by
  rw [txHandler_eq]

@[simp] theorem rxHandlerWith_receiveReady : (rxHandlerWith curR rx0 rx1 s).receiveReady = true := by
  rw [rxHandlerWith_eq]

@[simp] theorem rxHandlerWith_rxFrame :
    (rxHandlerWith curR rx0 rx1 s).rxFrame = ⟨⟨rx0, rx1⟩, true⟩ := by
  rw [rxHandlerWith_eq]

@[simp] theorem rxHandlerWith_expectedCursor :
    (rxHandlerWith curR rx0 rx1 s).expectedCursor = curR s.expectedCursor := by
  rw [rxHandlerWith_eq]

@[simp] theorem rxHandlerWith_transmitReady :
    (rxHandlerWith curR rx0 rx1 s).transmitReady = s.transmitReady := by
  rw [rxHandlerWith_eq]

@[simp] theorem rxHandlerWith_txIntArmed :
    (rxHandlerWith curR rx0 rx1 s).txIntArmed = s.txIntArmed := by
  rw [rxHandlerWith_eq]

@[simp] theorem rxHandlerWith_rxIntArmed :
    (rxHandlerWith curR rx0 rx1 s).rxIntArmed = s.rxIntArmed := by
  rw [rxHandlerWith_eq]

@[simp] theorem rxHandlerWith_errorCount :
    (rxHandlerWith curR rx0 rx1 s).errorCount = s.errorCount := by
  rw [rxHandlerWith_eq]

@[simp] theorem rxHandlerWith_mlPhase : (rxHandlerWith curR rx0 rx1 s).mlPhase = s.mlPhase := by
  rw [rxHandlerWith_eq]

@[simp] theorem rxHandlerWith_halted : (rxHandlerWith curR rx0 rx1 s).halted = s.halted := by
  rw [rxHandlerWith_eq]

end

/-! ### What an operation that completes has done -/

/-- Operation `i` performed in `s` gives `t`: one constructor per agent (R11), with the guard that has
passed. -/
inductive Performs (s : State) : Instr → State → Prop where
  | pure {i : Instr} (r : StepResult) (isPure : isPure i = true) : Performs s i (s.returns r)
  | mainLoop {i : Instr} (p : Phase) (data : DataWord) (main : isMainLoop i = true)
      (running : s.halted = false) (phase : s.mlPhase = p.code)
      (named : i = .ml data ∨ i = p.instr data) : Performs s i (microOp p data s)
  | txev (running : s.halted = false) (armed : s.txIntArmed = true) : Performs s .txev (txHandler s)
  | rxev (rx0 rx1 : Byte) (running : s.halted = false) (armed : s.rxIntArmed = true) :
      Performs s (.rxev rx0 rx1) (rxHandlerWith Config.curR rx0 rx1 s)
  | halt (running : s.halted = false) : Performs s .halt s.setHalted
  | reset : Performs s .reset s.toReset
  | command (c : DrvCmd) : Performs s c.instr (s.drv c)

/-- Everything an operation that completes can have done. -/
theorem performs_of_exec (completed : exec i s = .next t) : Performs s i t := by
  have mainLoop (main : isMainLoop i = true) : Performs s i t := by
    obtain ⟨running, p, data, phase, named, rfl⟩ := mainLoop_next main completed
    exact .mainLoop p data main running phase named
  have command (c : DrvCmd) (issued : (.next (s.drv c) : Out) = .next t) :
      Performs s c.instr t := by
    obtain rfl := Host.Outcome.next.inj issued
    exact .command c
  cases i with
  | ml _ | mlBuild _ | mlArmtest | mlArm | mlRxtest | mlRxclr | mlCmp | mlErrinc | mlTxrdy
  | mlRxdis => exact mainLoop rfl
  | crc8 _ | crcchk _ _ | frame _ | pack12 _ _ =>
    obtain rfl := Host.Outcome.next.inj completed
    exact .pure _ rfl
  | txev =>
    obtain ⟨running, armed, rfl⟩ := takeEvent_next.1 completed
    exact .txev running armed
  | rxev rx0 rx1 =>
    obtain ⟨running, armed, rfl⟩ := takeEvent_next.1 completed
    exact .rxev rx0 rx1 running armed
  | halt =>
    obtain ⟨running, done⟩ := whenRunning_next.1 completed
    obtain rfl := Host.Outcome.next.inj done
    exact .halt running
  | reset =>
    obtain rfl := Host.Outcome.next.inj completed
    exact .reset
  | recv count =>
    rw [exec, execRecv] at completed
    split at completed
    · exact command (.recv count) completed
    · cases completed
  | send b0 b1 b2 b3 => exact command (.send b0 b1 b2 b3) completed
  | armtx => exact command .armtx completed
  | distx => exact command .distx completed
  | armrx => exact command .armrx completed
  | disrx => exact command .disrx completed
  | acktx => exact command .acktx completed
  | ackrx => exact command .ackrx completed

/-! ### The commands an operation issues -/

/-- Settles O43: the main loop issues commands in two phases alone, a handler its own. -/
theorem commandsIssuedPerStep : Obligations.CommandsIssuedPerStep := by
  intro i s t plain noReset completed
  cases performs_of_exec completed with
  | pure r isPure =>
    cases i with
    | crc8 _ | crcchk _ _ | frame _ | pack12 _ _ => simp
    | _ => cases isPure
  | mainLoop p data _ _ phase named =>
    rw [microOp_drvTrace]
    rcases named with rfl | rfl
    · cases p <;> simp [phase, Phase.code, microCommands]
    · cases p <;> rfl
  | txev => rw [txHandler_eq]
  | rxev => rw [rxHandlerWith_eq]
  | halt => simp
  | reset => exact absurd rfl noReset
  | command c => cases c <;> cases plain

/-! ### Ownership -/

/-- `transmitReady` is written by `TXEV`, with 0, and by ML.TXRDY, with 1 (R27). -/
theorem transmitReady_writers (noReset : i ≠ .reset) (completed : exec i s = .next t) :
    t.transmitReady = s.transmitReady ∨ (t.transmitReady = false ∧ i = .txev) ∨
    (t.transmitReady = true ∧ isMainLoop i = true ∧ s.mlPhase = 7) := by
  cases performs_of_exec completed with
  | mainLoop p data main _ phase _ =>
    by_cases txrdy : p = .txrdy
    · subst txrdy
      exact .inr (.inr ⟨by simp, main, phase⟩)
    · exact .inl (by simp [txrdy])
  | txev => exact .inr (.inl ⟨txHandler_transmitReady, rfl⟩)
  | reset => exact absurd rfl noReset
  | rxev => exact .inl rxHandlerWith_transmitReady
  | pure | halt | command => exact .inl rfl

/-- `receiveReady` is written by `RXEV`, with 1, and by ML.RXCLR, with 0 (R28). -/
theorem receiveReady_writers (noReset : i ≠ .reset) (completed : exec i s = .next t) :
    t.receiveReady = s.receiveReady ∨ (t.receiveReady = true ∧ ∃ rx0 rx1 : Byte, i = .rxev rx0 rx1) ∨
    (t.receiveReady = false ∧ isMainLoop i = true ∧ s.mlPhase = 4) := by
  cases performs_of_exec completed with
  | mainLoop p data main _ phase _ =>
    by_cases rxclr : p = .rxclr
    · subst rxclr
      exact .inr (.inr ⟨by simp, main, phase⟩)
    · exact .inl (by simp [rxclr])
  | rxev rx0 rx1 => exact .inr (.inl ⟨rxHandlerWith_receiveReady, rx0, rx1, rfl⟩)
  | reset => exact absurd rfl noReset
  | txev => exact .inl txHandler_receiveReady
  | pure | halt | command => exact .inl rfl

/-- Settles O44: each flag has two writers, one per direction. -/
theorem flagsHaveOneWriterPerDirection : Obligations.FlagsHaveOneWriterPerDirection := by
  intro i s t noReset completed
  have transmit := transmitReady_writers noReset completed
  have receive := receiveReady_writers noReset completed
  refine ⟨fun old new => ?_, fun old new => ?_, fun old new => ?_, fun old new => ?_⟩
  · simpa [old, new] using transmit
  · simpa [old, new] using transmit
  · simpa [old, new] using receive
  · simpa [old, new] using receive

/-- Settles O45: a micro-operation changes a register in one phase alone (`ite_ne_right_iff`). -/
theorem registersHaveTheirOwners : Obligations.RegistersHaveTheirOwners := by
  intro i s t noReset completed
  cases performs_of_exec completed with
  | mainLoop p data main _ phase _ =>
    have selected {q : Phase} (h : p = q) : isMainLoop i = true ∧ s.mlPhase = q.code := ⟨main, h ▸ phase⟩
    simp only [microOp_rxFrame, microOp_frame, microOp_dataWord, microOp_errorCount, microOp_matchReg,
      microOp_halted, microOp_expectedCursor, microOp_txIntArmed, microOp_rxIntArmed, ite_ne_right_iff]
    refine ⟨fun h => absurd rfl h, ?_, fun h => selected h.1, fun h => selected h.1, fun _ => main,
      fun h => absurd rfl h, fun h => .inl (selected h.1), fun h => .inl (selected h.1),
      fun h => .inl (selected h.1)⟩
    rintro (h | h) <;> exact selected h.1
  | txev => rw [txHandler_eq]; simp
  | rxev => rw [rxHandlerWith_eq]; simp
  | reset => exact absurd rfl noReset
  | command c => cases c <;> simp [DrvCmd.instr, shadowTx, shadowRx]
  | pure | halt => simp

/-- Settles O46: the buffers change with their registers alone (R39); the two writers by their equations. -/
theorem bufferBytesChangeOnlyByBuildAndRxev : Obligations.BufferBytesChangeOnlyByBuildAndRxev := by
  intro i s t noReset completed
  obtain ⟨rxFrame, frame, -⟩ := registersHaveTheirOwners i s t noReset completed
  refine ⟨fun other k => ?_, fun other k => ?_, ?_, ?_⟩
  · have kept : t.frame = s.frame := by
      by_contra changed
      exact other (frame (.inl changed))
    rw [memRead, memRead, kept]
  · have kept : t.rxFrame = s.rxFrame := by
      by_contra changed
      obtain ⟨rx0, rx1, named⟩ := rxFrame changed
      exact other rx0 rx1 named
    rw [memRead, memRead, kept]
  · rintro data rfl k
    obtain ⟨-, -, built⟩ := whenSelected_next.1 completed
    obtain rfl := Host.Outcome.next.inj built
    simp [memRead, microBuild]
  · rintro rx0 rx1 rfl
    obtain ⟨-, -, rfl⟩ := takeEvent_next.1 completed
    simp [memRead, RxPair.byte]

/-! ### One step -/

/-- Settles O7: what `fetch` presents, case by case. -/
theorem stepRunsTheDecodedRecord : Obligations.StepRunsTheDecodedRecord := by
  refine ⟨fun s r rest i presented decoded => ?_, fun s r rest e presented decoded => ?_,
    fun s nothing => ?_⟩
  · simp only [step, fetch, presented, decoded]
    rfl
  · simp only [step, fetch, presented, decoded]
  · simp only [step, fetch, nothing]

/-- A step with a record at the head of the schedule performs it and takes it (R79, R83). -/
theorem step_present {r : Record} (s : State) (decoded : decodeRecord r = .ok i) :
    step (s.present (.record r)) = exec i { s with result := .none } :=
  stepRunsTheDecodedRecord.1 _ r s.stim i rfl decoded

/-- `ML` and the row of the selected phase stand under the same guard and perform the same
micro-operation. -/
theorem exec_ml_of_phase (phase : s.mlPhase = p.code) :
    exec (.ml data) s = exec (p.instr data) s := by
  rw [exec_phaseInstr, whenSelected, if_pos phase, exec, execMl, phase, phaseOf_code]

/-- Settles O30: `exec_ml_of_phase`; no code from 9 on names a phase. -/
theorem mlPerformsTheNamedMicroOperation : Obligations.MlPerformsTheNamedMicroOperation := by
  refine ⟨fun _ p data => exec_ml_of_phase p data, fun s data running high => ?_⟩
  have nameless : ∀ code : Nibble, 9 ≤ code.toNat → phaseOf code = none := by decide
  rw [exec, execMl, whenRunning_running running, nameless _ high]

/-- Settles O8: a word of 40 bits is a stimulus record, one of 8 bits selects a phase for an `ML` record. -/
theorem placedTableWordIsPerformed : Obligations.PlacedTableWordIsPerformed := by
  refine ⟨fun s r i decoded => ⟨?_, ?_⟩, fun s p => ⟨by cases p <;> decide, ?_⟩⟩
  · simp [decodeTableWord, tableEncoding, r.isLt, decode, decoded]
  · have placed : s.withFetchWord 40 r.toNat = s.present (.record r) := by
      simp [State.withFetchWord, State.presentTableWord]
    rw [placed, step_present s decoded]
  · have placed : s.withFetchWord 8 p.code.toNat =
        ({ s with mlPhase := p.code } : State).present (.record (mlRecord 0)) := by
      cases p <;> rfl
    rw [placed, step_present _ (decodeRecord_mlRecord 0), exec_ml_of_phase p 0 rfl]

/-- Settles O39: of the operations a record can name, those whose guard a halted block passes are `RESET`
and the pure ones. -/
theorem haltedIsAbsorbingButForReset : Obligations.HaltedIsAbsorbingButForReset := by
  intro s t halted stepped
  have stuck {P : Prop} (running : s.halted = false) : P := by
    rw [IsFaultState, running] at halted
    cases halted
  rcases step_next stepped with ⟨-, rfl⟩ | ⟨r, rest, i, presented, decoded, completed⟩
  · exact .inl ⟨rfl, halted⟩
  · have plain := (recordsNeverDecodeToCommands r i decoded).1
    cases performs_of_exec completed with
    | pure => exact .inl ⟨rfl, halted⟩
    | mainLoop _ _ _ running => exact stuck running
    | txev running => exact stuck running
    | rxev _ _ running => exact stuck running
    | halt running => exact stuck running
    | reset => exact .inr ⟨r, rest, presented, decoded, rfl⟩
    | command c => cases c <;> cases plain

/-! ### Single operations -/

/-- Settles O40: both handlers read the cursor before their own update. -/
theorem namedCursorPoliciesUpdateTheCursor : Obligations.NamedCursorPoliciesUpdateTheCursor := by
  intro policy s rx0 rx1
  refine ⟨_, _, rfl, rfl, ?_, ?_, ?_⟩
  · rw [rxHandlerWith_eq]
    cases policy <;> rfl
  · rw [microCmpWith_eq, rxHandlerWith_eq]
    simpa using pairMatches_iff (p := ⟨rx0, rx1⟩)
  · rw [microCmpWith_eq, rxHandlerWith_eq]
    cases policy with
    | incOnMatch =>
      cases outcome : pairMatches s.expectedCursor ⟨rx0, rx1⟩ <;>
        simp [policyCurV, policyCurR, cursorNext, outcome]
    | _ => rfl

/-- Settles O41: each row is the shared operation `State.drv` with its own command. -/
theorem driverCommandsAppendAndWriteTheShadow : Obligations.DriverCommandsAppendAndWriteTheShadow :=
  fun _ => ⟨fun _ _ _ _ => rfl, rfl, rfl, rfl, rfl, rfl, rfl, rfl⟩

/-- Settles O42: the count is the one test of the row. -/
theorem recvOfAnotherCountIsRefused : Obligations.RecvOfAnotherCountIsRefused :=
  fun _ _ other => if_neg other

/-- Settles O26: no cursor is 0 and has 0 after it, so the pair that the model names mismatches. -/
theorem readsOfUnwrittenBuffersGiveTheNamedValue :
    Obligations.ReadsOfUnwrittenBuffersGiveTheNamedValue := by
  have mismatch : ∀ c : Byte, pairMatches c ⟨0, 0⟩ = false := by decide
  refine ⟨by decide, by decide, fun s running phase unwritten => ?_,
    fun s running armed unwritten => ?_⟩
  · have pair : pairMatches s.expectedCursor s.rxFrame.value = false := by
      rw [unwritten]
      exact mismatch _
    exact exec_mlCmp running phase pair
  · refine ⟨_, exec_txev_armed running armed, ?_⟩
    rw [txHandler_eq, unwritten]
    rfl

/-- Settles O37: the reset state runs, in `BUILD`, with both lines disarmed. -/
theorem resetStateAndItsEnabledSteps : Obligations.ResetStateAndItsEnabledSteps := by
  refine ⟨?_, fun data => ⟨_, rfl, rfl⟩, ⟨_, exec_halt_running rfl⟩, ⟨_, exec_reset _⟩,
    fun i pure => exec_pure_completes pure _, exec_txev_disarmed rfl rfl,
    fun rx0 rx1 => exec_rxev_disarmed rx0 rx1 rfl rfl⟩
  exact ⟨rfl, rfl, rfl, rfl, rfl, rfl, rfl, rfl, rfl, rfl, rfl, rfl, rfl, rfl⟩

/-- Settles O38: fields of the reset state, whose empty schedule presents nothing. -/
theorem modelsOwnResetValues : Obligations.ModelsOwnResetValues :=
  ⟨rfl, rfl, rfl, rfl, rfl, rfl, rfl⟩

end Sys2Proof.Machine
end

section
/-! PROOF. The invariant (spec/10_state.md R38; R214, R30): it holds at reset, every update the operations
are made of keeps it, and so does every step. What depends on the phase is asked once, where a phase is
entered (`Inv.setPhase`). -/

namespace Sys2Proof.Machine

variable {s t : State} {i : Instr}

/-- The code of a phase is legal (R38 b). -/
theorem phaseCode_le (p : Phase) : p.code.toNat ≤ 8 := by cases p <;> decide

theorem phaseCode_inj {p q : Phase} (same : p.code = q.code) : p = q := by
  simpa using congrArg phaseOf same

/-! ### The updates -/

theorem inv_reset : Inv State.reset where
  phaseLegal := by decide
  frameFresh := nofun
  frameBuilt built := absurd rfl built
  armedFrame := nofun
  readyPair := nofun
  validatedPair := by decide
  matchMirror := by decide
  mismatchMirror := by decide

theorem Inv.toReset (s : State) : Inv s.toReset := { inv_reset with }

theorem Inv.take (inv : Inv s) (rest : List Record) : Inv (s.take rest) := { inv with }

theorem Inv.returns (inv : Inv s) (r : StepResult) : Inv (s.returns r) := { inv with }

theorem Inv.setHalted (inv : Inv s) : Inv s.setHalted := { inv with }

theorem Inv.countError (inv : Inv s) : Inv s.countError := { inv with }

theorem Inv.setTransmitReady (inv : Inv s) (b : Bool) : Inv (s.setTransmitReady b) := { inv with }

theorem Inv.setCursor (inv : Inv s) (c : Byte) : Inv (s.setCursor c) := { inv with }

/-- ML.CMP writes `matchReg` in a phase that mirrors no outcome yet (R30). -/
theorem Inv.setMatch (inv : Inv s) (phase : s.mlPhase = Phase.cmp.code) (b : Bool) : Inv (s.setMatch b) :=
  { inv with
    matchMirror := fun h => absurd h (by rw [State.setMatch_mlPhase, phase]; decide)
    mismatchMirror := fun h => absurd h (by rw [State.setMatch_mlPhase, phase]; decide) }

theorem Inv.loadFrame (inv : Inv s) (data : DataWord) : Inv (s.loadFrame data) :=
  { inv with
    frameFresh := fun _ => ⟨rfl, rfl⟩
    frameBuilt := fun _ => rfl
    armedFrame := fun _ => rfl }

theorem Inv.clearReceiveReady (inv : Inv s) : Inv (s.setReceiveReady false) := { inv with readyPair := nofun }

/-- A command keeps the invariant, but for `ARMTX` before the first ML.BUILD (R38 e). -/
theorem Inv.drv (inv : Inv s) (c : DrvCmd) (built : c = .armtx → s.frame.written = true) :
    Inv (s.drv c) :=
  { inv with
    armedFrame := by
      cases c with
      | armtx => exact fun _ => built rfl
      | distx => nofun
      | _ => exact inv.armedFrame }

/-- A phase is entered with what it will read written and what it mirrors (R214, R30). -/
theorem Inv.setPhase (inv : Inv s) (p : Phase) (built : p ≠ .build → s.frame.written = true)
    (validated : p = .rxclr ∨ p = .cmp → s.rxFrame.written = true)
    (mirrored : p = .txrdy ∨ p = .rxdis → s.matchReg = ⟨true, true⟩)
    (missed : p = .errinc → s.matchReg = ⟨false, true⟩) : Inv (s.setPhase p) :=
  { inv with
    phaseLegal := phaseCode_le p
    frameBuilt := fun later => built fun build => later (congrArg Phase.code build)
    validatedPair := fun codes => validated (codes.imp phaseCode_inj phaseCode_inj)
    matchMirror := fun codes => mirrored (codes.imp phaseCode_inj phaseCode_inj)
    mismatchMirror := fun code => missed (phaseCode_inj code) }

/-- The micro-operation of the selected phase keeps the invariant, whatever its data. -/
theorem Inv.microOp (inv : Inv s) {p : Phase} (phase : s.mlPhase = p.code) (data : DataWord) :
    Inv (microOp p data s) := by
  have built (later : p.code ≠ Phase.build.code) : s.frame.written = true :=
    inv.frameBuilt (by rwa [phase])
  cases p with
  | build => exact (inv.loadFrame data).setPhase .armtest (fun _ => rfl) nofun nofun nofun
  | armtest =>
    rw [Machine.microOp, microArmtest]
    split <;> exact inv.setPhase _ (fun _ => built (by decide)) nofun nofun nofun
  | arm =>
    have frame := built (by decide)
    exact (inv.drv .armtx fun _ => frame).setPhase .rxtest (fun _ => frame) nofun nofun nofun
  | rxtest =>
    rw [Machine.microOp, microRxtest]
    split
    next ready =>
      exact inv.setPhase .rxclr (fun _ => built (by decide)) (fun _ => inv.readyPair ready) nofun nofun
    next => exact inv.setPhase .build (absurd rfl) nofun nofun nofun
  | rxclr =>
    exact inv.clearReceiveReady.setPhase .cmp (fun _ => built (by decide))
      (fun _ => inv.validatedPair (.inl phase)) nofun nofun
  | cmp =>
    have compared (b : Bool) := (inv.setCursor
      (Config.curV s.expectedCursor (pairMatches s.expectedCursor s.rxFrame.value))).setMatch phase b
    rw [Machine.microOp, microCmpWith]
    split
    · exact (compared true).setPhase .txrdy (fun _ => built (by decide)) nofun (fun _ => rfl) nofun
    · exact (compared false).setPhase .errinc (fun _ => built (by decide)) nofun nofun fun _ => rfl
  | errinc => exact inv.countError.setPhase .build (absurd rfl) nofun nofun nofun
  | txrdy =>
    exact (inv.setTransmitReady true).setPhase .rxdis (fun _ => built (by decide)) nofun
      (fun _ => inv.matchMirror (.inl phase)) nofun
  | rxdis => exact (inv.drv .disrx nofun).setPhase .build (absurd rfl) nofun nofun nofun

/-- The transmit handler arms no transmit line, so it asks nothing of the Frame (R131). -/
theorem Inv.txHandler (inv : Inv s) : Inv (txHandler s) :=
  ((((inv.drv (.send _ _ _ _) nofun).setTransmitReady false).drv .armrx nofun).drv .acktx nofun).drv
    .distx nofun

/-- The receive handler writes the pair before it says that it is staged (R132). -/
theorem Inv.rxHandler (inv : Inv s) (curR : Byte → Byte) (rx0 rx1 : Byte) :
    Inv (rxHandlerWith curR rx0 rx1 s) :=
  { inv with
    readyPair := fun _ => rfl
    validatedPair := fun _ => rfl }

/-! ### The statements -/

/-- Every operation but a command performed alone keeps the invariant (R160: none is a step). -/
theorem Inv.exec (inv : Inv s) (plain : isCommand i = false) (completed : exec i s = .next t) : Inv t := by
  cases performs_of_exec completed with
  | pure r => exact inv.returns r
  | mainLoop p data _ _ phase => exact inv.microOp phase data
  | txev => exact inv.txHandler
  | rxev rx0 rx1 => exact inv.rxHandler Config.curR rx0 rx1
  | halt => exact inv.setHalted
  | reset => exact .toReset s
  | command c => cases c <;> cases plain

/-- Settles O48: a step performs what a record decodes to, which is no command. -/
theorem stepKeepsTheInvariant : Obligations.StepKeepsTheInvariant := by
  intro s t inv stepped
  rcases step_next stepped with ⟨-, rfl⟩ | ⟨r, rest, i, -, decoded, completed⟩
  · exact inv
  · exact (inv.take rest).exec (recordsNeverDecodeToCommands r i decoded).1 completed

/-- A running block performs the micro-operation `mlPhase` names (R121). -/
theorem exec_ml_running {p : Phase} (data : DataWord) (running : s.halted = false)
    (phase : s.mlPhase = p.code) : exec (.ml data) s = .next (Machine.microOp p data s) := by
  rw [exec_ml_of_phase p data phase, exec_phaseInstr_selected p data running phase rfl]

/-- Settles O31: a legal code names a phase, and outside `BUILD` its micro-operation reads no data. -/
theorem mlCompletesWheneverRunning : Obligations.MlCompletesWheneverRunning := by
  intro s legal running data
  obtain ⟨p, phase⟩ := exists_phase_of_legal legal
  refine ⟨_, exec_ml_running data running phase, fun inv => inv.microOp phase data, fun later => ?_⟩
  have notBuild : p ≠ .build := by
    rintro rfl
    exact later phase
  rw [exec_ml_running 0 running phase, microOp_data notBuild 0 data]

/-- Settles O52: an armed line means a Frame that was built (R38 e), and it is that of `dataWord` (R38 a). -/
theorem sentFrameIsTheLatestBuilt : Obligations.SentFrameIsTheLatestBuilt := by
  intro s inv running armed
  obtain ⟨-, fresh⟩ := inv.frameFresh (inv.armedFrame armed)
  refine ⟨_, exec_txev_armed running armed, ?_⟩
  rw [txHandler_eq, fresh, frameOf_eq]
  rfl

end Sys2Proof.Machine
end

section
/-! PROOF. The driver trace (spec/43_driver_interface.md R169). An operation appends a whole group to the
trace. What R169 says of a trace can be read off its first part and then off its second, so the shape is kept
as soon as the group appended has it (`TraceInv.append`), and the counts add up. -/

namespace Sys2Proof.Machine

variable {s t : State} {i : Instr}

/-! ### A trace in two parts -/

theorem traceGrouped_append {a : List DrvCmd} (b : List DrvCmd) (whole : traceGrouped a = true) :
    traceGrouped (a ++ b) = traceGrouped b := by
  fun_induction traceGrouped a <;> simp_all [traceGrouped]

theorem sendsArmed_append (armed : Bool) (a b : List DrvCmd) :
    sendsArmed armed (a ++ b) = (sendsArmed armed a && sendsArmed (armedSinceSend armed a) b) := by
  fun_induction sendsArmed armed a <;> simp_all [sendsArmed, armedSinceSend, Bool.and_assoc]

theorem armedSinceSend_append (armed : Bool) (a b : List DrvCmd) :
    armedSinceSend armed (a ++ b) = armedSinceSend (armedSinceSend armed a) b := by
  fun_induction armedSinceSend armed a <;> simp_all [armedSinceSend]

theorem replayTx_append (armed : Bool) (a b : List DrvCmd) :
    replayTx armed (a ++ b) = replayTx (replayTx armed a) b := by
  induction a generalizing armed with
  | nil => rfl
  | cons c a ih => exact ih _

theorem replayRx_append (armed : Bool) (a b : List DrvCmd) :
    replayRx armed (a ++ b) = replayRx (replayRx armed a) b := by
  induction a generalizing armed with
  | nil => rfl
  | cons c a ih => exact ih _

/-! ### The shape -/

theorem traceInv_reset : TraceInv State.reset where
  grouped := rfl
  armedSends := rfl
  armedNow := nofun
  shadowTx := rfl
  shadowRx := rfl

/-- Appending a group keeps the shape when the group is whole, sends only under an `ARMTX` that no `SEND` has
used up, and is what moved the lines. -/
theorem TraceInv.append (inv : TraceInv s) (group : List DrvCmd) (trace : t.drvTrace = s.drvTrace ++ group)
    (grouped : traceGrouped group = true)
    (sends : sendsArmed (armedSinceSend false s.drvTrace) group = true)
    (now : t.txIntArmed = true → armedSinceSend (armedSinceSend false s.drvTrace) group = true)
    (tx : t.txIntArmed = replayTx s.txIntArmed group)
    (rx : t.rxIntArmed = replayRx s.rxIntArmed group) : TraceInv t where
  grouped := by rw [trace, traceGrouped_append group inv.grouped, grouped]
  armedSends := by rw [trace, sendsArmed_append, inv.armedSends, sends]; rfl
  armedNow := by rw [trace, armedSinceSend_append]; exact now
  shadowTx := by rw [trace, replayTx_append, ← inv.shadowTx, tx]
  shadowRx := by rw [trace, replayRx_append, ← inv.shadowRx, rx]

theorem TraceInv.microOp (inv : TraceInv s) (p : Phase) (data : DataWord) :
    TraceInv (microOp p data s) := by
  refine inv.append (microCommands p) (microOp_drvTrace p data) ?_ ?_ ?_ ?_ ?_
  · cases p <;> rfl
  · cases p <;> rfl
  · rw [microOp_txIntArmed]
    cases p with
    | arm => exact fun _ => rfl
    | _ => exact inv.armedNow
  · rw [microOp_txIntArmed]
    cases p <;> rfl
  · rw [microOp_rxIntArmed]
    cases p <;> rfl

/-- The `SEND` of the handler uses up the `ARMTX` that an armed line stands for (R131). -/
theorem TraceInv.txHandler (inv : TraceInv s) (armed : s.txIntArmed = true) : TraceInv (txHandler s) := by
  rw [txHandler_eq]
  refine inv.append _ rfl rfl ?_ nofun rfl rfl
  rw [inv.armedNow armed]
  rfl

theorem TraceInv.rxHandler (inv : TraceInv s) (curR : Byte → Byte) (rx0 rx1 : Byte) :
    TraceInv (rxHandlerWith curR rx0 rx1 s) := by
  rw [rxHandlerWith_eq]
  exact inv.append _ rfl rfl rfl inv.armedNow rfl rfl

/-- Every operation but a command performed alone keeps the shape (R160: none is a step). -/
theorem TraceInv.exec (inv : TraceInv s) (plain : isCommand i = false) (completed : exec i s = .next t) :
    TraceInv t := by
  cases performs_of_exec completed with
  | pure | halt => exact { inv with }
  | mainLoop p data => exact inv.microOp p data
  | txev _ armed => exact inv.txHandler armed
  | rxev rx0 rx1 => exact inv.rxHandler Config.curR rx0 rx1
  | reset => exact { traceInv_reset with }
  | command c => cases c <;> cases plain

/-- Settles O50: a step performs what a record decodes to, which is no command. -/
theorem stepKeepsTheTraceShape : Obligations.StepKeepsTheTraceShape := by
  intro s t inv stepped
  rcases step_next stepped with ⟨-, rfl⟩ | ⟨r, rest, i, -, decoded, completed⟩
  · exact inv
  · have taken : TraceInv (s.take rest) := { inv with }
    exact taken.exec (recordsNeverDecodeToCommands r i decoded).1 completed

/-- Settles O47: nothing is armed, staged or issued at reset. -/
theorem invariantHoldsAtReset : Obligations.InvariantHoldsAtReset :=
  ⟨inv_reset, traceInv_reset⟩

/-! ### The counts -/

/-- Each group has its acknowledge. -/
theorem count_acks_of_grouped {trace : List DrvCmd} (grouped : traceGrouped trace = true) :
    trace.count .acktx = sendCount trace ∧ trace.count .ackrx = recvCount trace := by
  fun_induction traceGrouped trace <;> simp_all [sendCount, recvCount]

/-- What one operation adds to the four counts of R169. -/
theorem counts_of_exec (plain : isCommand i = false) (noReset : i ≠ .reset)
    (completed : exec i s = .next t) :
    sendCount t.drvTrace = sendCount s.drvTrace + txevCount [i] ∧
    t.drvTrace.count .acktx = s.drvTrace.count .acktx + txevCount [i] ∧
    recvCount t.drvTrace = recvCount s.drvTrace + rxevCount [i] ∧
    t.drvTrace.count .ackrx = s.drvTrace.count .ackrx + rxevCount [i] := by
  rw [commandsIssuedPerStep i s t plain noReset completed]
  cases i with
  | reset => exact absurd rfl noReset
  | ml data =>
    dsimp only
    split_ifs <;> simp [sendCount, recvCount, txevCount, rxevCount, isRxev]
  | txev | rxev rx0 rx1 => simp [sendCount, recvCount, txevCount, rxevCount, isRxev]
  | send _ _ _ _ | recv _ | armtx | distx | armrx | disrx | acktx | ackrx => cases plain
  | _ => simp [sendCount, recvCount, txevCount, rxevCount, isRxev]

/-- Settles O51: by induction on the operations, `counts_of_exec` for each. -/
theorem groupedTracesBalance : Obligations.GroupedTracesBalance := by
  refine ⟨fun s inv => count_acks_of_grouped inv.grouped, fun ops s t => ?_⟩
  induction ops generalizing s with
  | nil =>
    intro _ done
    obtain rfl := Host.Outcome.next.inj done
    exact ⟨rfl, rfl, rfl, rfl⟩
  | cons i ops ih =>
    intro allowed completed
    obtain ⟨u, first, rest⟩ := execAll_cons_next.1 completed
    rw [List.forall_mem_cons] at allowed
    obtain ⟨⟨plain, noReset⟩, later⟩ := allowed
    obtain ⟨send, acktx, recv, ackrx⟩ := counts_of_exec plain noReset first
    obtain ⟨send', acktx', recv', ackrx'⟩ := ih u later rest
    have tx : txevCount (i :: ops) = txevCount [i] + txevCount ops := List.count_append (l₁ := [i])
    have rx : rxevCount (i :: ops) = rxevCount [i] + rxevCount ops := List.countP_append (l₁ := [i])
    omega

end Sys2Proof.Machine
end

section
/-! PROOF. Iterations of the main loop (spec/42_transfer_coordinator.md R121, R135, R136) and the hazards
(spec/70_reset_and_hazards.md R220, R222, R223; R187). A running block performs `ML` after `ML`, each the
micro-operation of its phase (`execAll_ml_cons`); the one long stretch that the cycles share, from `BUILD`
past the comparison of a staged pair, is run once (`exists_compared`). -/

namespace Sys2Proof.Machine

variable {s : State} {ops : List Instr}

/-! ### The first of several operations -/

theorem execAll_ml_cons (p : Phase) (data : DataWord) (running : s.halted = false)
    (phase : s.mlPhase = p.code) : execAll (.ml data :: ops) s = execAll ops (microOp p data s) := by
  rw [execAll, exec_ml_running data running phase]

theorem execAll_txev_cons (running : s.halted = false) (armed : s.txIntArmed = true) :
    execAll (.txev :: ops) s = execAll ops (txHandler s) := by
  rw [execAll, exec_txev_armed running armed]

theorem execAll_rxev_cons (rx0 rx1 : Byte) (running : s.halted = false) (armed : s.rxIntArmed = true) :
    execAll (.rxev rx0 rx1 :: ops) s = execAll ops (rxHandlerWith Config.curR rx0 rx1 s) := by
  rw [execAll, exec_rxev_armed rx0 rx1 running armed]

/-! ### The length of an iteration -/

/-- The main-loop steps that are left of an iteration while no handler runs (R82). -/
def stepsToBuild (p : Phase) (s : State) : Nat :=
  let fromCmp := if pairMatches s.expectedCursor s.rxFrame.value then 3 else 2
  let fromRxtest := if s.receiveReady then 2 + fromCmp else 1
  match p with
  | .build => 0
  | .armtest => if s.transmitReady then 2 + fromRxtest else 1 + fromRxtest
  | .arm => 1 + fromRxtest
  | .rxtest => fromRxtest
  | .rxclr => 1 + fromCmp
  | .cmp => fromCmp
  | .errinc => 1
  | .txrdy => 2
  | .rxdis => 1

theorem stepsToBuild_eq_zero {p : Phase} : stepsToBuild p s = 0 ↔ p = .build := by
  cases p <;> simp [stepsToBuild] <;> grind

/-- Each main-loop step outside `BUILD` is one of them. -/
theorem stepsToBuild_microOp {p : Phase} (data : DataWord) (later : p ≠ .build) :
    stepsToBuild (nextPhase p s) (microOp p data s) + 1 = stepsToBuild p s := by
  cases p <;> simp [stepsToBuild, nextPhase] <;> grind

/-- A running block in a phase takes the steps that are left of its iteration, one by one. -/
theorem exists_run_toward_build {p : Phase} (data : DataWord) (n : Nat) (running : s.halted = false)
    (phase : s.mlPhase = p.code) (bound : n ≤ stepsToBuild p s) :
    ∃ (q : Phase) (u : State), execAll (List.replicate n (.ml data)) s = .next u ∧
      u.mlPhase = q.code ∧ stepsToBuild q u + n = stepsToBuild p s := by
  induction n generalizing p s with
  | zero => exact ⟨p, s, rfl, phase, rfl⟩
  | succ n ih =>
    have later : p ≠ .build := fun build => by
      rw [stepsToBuild_eq_zero.2 build] at bound
      omega
    have step := stepsToBuild_microOp (s := s) data later
    obtain ⟨q, u, run, phase', left⟩ := ih (s := microOp p data s) (by simp [running])
      (microOp_mlPhase p data) (by omega)
    refine ⟨q, u, ?_, phase', by omega⟩
    rw [List.replicate_succ, execAll_ml_cons p data running phase, run]

/-- Settles O53: ML.BUILD begins the iteration, and `stepsToBuild` counts the rest of it. -/
theorem iterationLengthFromTheFlags : Obligations.IterationLengthFromTheFlags := by
  intro s data n running phase length
  have counted : n = stepsToBuild .armtest (microOp .build data s) := by
    rw [length]
    simp [stepsToBuild]
    grind
  have run (m : Nat) (bound : m ≤ n) : ∃ (q : Phase) (u : State),
      execAll (iterRecords data m) s = .next u ∧ u.mlPhase = q.code ∧ stepsToBuild q u + m = n := by
    rw [iterRecords, execAll_ml_cons .build data running phase]
    rw [counted] at bound ⊢
    exact exists_run_toward_build 0 m (by simp [running]) (microOp_mlPhase .build data) bound
  constructor
  · obtain ⟨q, u, done, phase', left⟩ := run n le_rfl
    obtain rfl : q = .build := (stepsToBuild_eq_zero (s := u)).1 (by omega)
    exact ⟨u, done, phase'⟩
  · intro m bound
    obtain ⟨q, u, done, phase', left⟩ := run m bound.le
    refine ⟨u, done, fun build => ?_⟩
    rw [phase'] at build
    have none := (stepsToBuild_eq_zero (s := u)).2 (phaseCode_inj (q := .build) build)
    omega

/-! ### The comparison of a staged pair -/

/-- The block `u` right after the comparison of the pair that was staged in `s`. -/
structure Compared (s u : State) : Prop where
  running : u.halted = false
  phase : u.mlPhase =
    (if pairMatches s.expectedCursor s.rxFrame.value then Phase.txrdy else Phase.errinc).code
  outcome : u.matchReg = ⟨pairMatches s.expectedCursor s.rxFrame.value, true⟩
  receiveReady : u.receiveReady = false
  rxFrame : u.rxFrame = s.rxFrame
  errorCount : u.errorCount = s.errorCount
  transmitReady : u.transmitReady = s.transmitReady
  rxIntArmed : u.rxIntArmed = s.rxIntArmed
  txIntArmed : s.transmitReady = false → u.txIntArmed = s.txIntArmed

/-- From `BUILD` with a pair staged, the main loop alone comes past ML.CMP, through ML.ARM where
`transmitReady` is 1. -/
theorem exists_compared (data data' : DataWord) (running : s.halted = false) (phase : s.mlPhase = 0)
    (ready : s.receiveReady = true) :
    ∃ u : State, Compared s u ∧ ∀ ops : List Instr,
      execAll (.ml data :: (List.replicate (if s.transmitReady then 5 else 4) (.ml data') ++ ops)) s =
        execAll ops u := by
  cases flag : s.transmitReady with
  | true =>
    refine ⟨microOp .cmp data' <| microOp .rxclr data' <| microOp .rxtest data' <| microOp .arm data' <|
      microOp .armtest data' <| microOp .build data s, ?_, fun ops => ?_⟩
    · constructor <;> simp [running, nextPhase, flag]
    · simp only [if_true, List.replicate, List.cons_append, List.nil_append]
      rw [execAll_ml_cons .build data running phase,
        execAll_ml_cons .armtest data' (by simp [running]) (by simp [nextPhase]),
        execAll_ml_cons .arm data' (by simp [running]) (by simp [nextPhase, flag]),
        execAll_ml_cons .rxtest data' (by simp [running]) (by simp [nextPhase]),
        execAll_ml_cons .rxclr data' (by simp [running]) (by simp [nextPhase, ready]),
        execAll_ml_cons .cmp data' (by simp [running]) (by simp [nextPhase])]
  | false =>
    refine ⟨microOp .cmp data' <| microOp .rxclr data' <| microOp .rxtest data' <|
      microOp .armtest data' <| microOp .build data s, ?_, fun ops => ?_⟩
    · constructor <;> simp [running, nextPhase, flag]
    · simp only [Bool.false_eq_true, if_false, List.replicate, List.cons_append, List.nil_append]
      rw [execAll_ml_cons .build data running phase,
        execAll_ml_cons .armtest data' (by simp [running]) (by simp [nextPhase]),
        execAll_ml_cons .rxtest data' (by simp [running]) (by simp [nextPhase, flag]),
        execAll_ml_cons .rxclr data' (by simp [running]) (by simp [nextPhase, ready]),
        execAll_ml_cons .cmp data' (by simp [running]) (by simp [nextPhase])]

/-! ### Cycles -/

/-- A transmit event, a receive event and the main loop past the comparison of its pair. -/
theorem exists_cycle_compared (a b : Byte) (data : DataWord) (running : s.halted = false)
    (phase : s.mlPhase = 0) (armed : s.txIntArmed = true) :
    ∃ u : State, Compared (rxHandlerWith Config.curR a b (txHandler s)) u ∧ ∀ ops : List Instr,
      execAll (.txev :: .rxev a b :: .ml data :: (List.replicate 4 (.ml 0) ++ ops)) s =
        execAll ops u := by
  obtain ⟨u, compared, run⟩ := exists_compared (s := rxHandlerWith Config.curR a b (txHandler s))
    data 0 (by simp [running]) (by simp [phase]) (by simp)
  refine ⟨u, compared, fun ops => ?_⟩
  rw [execAll_txev_cons running armed, execAll_rxev_cons a b (by simp [running]) (by simp), ← run]
  simp

/-- Settles O54: the pair matches the cursor after the event's own update, so ML.TXRDY and ML.RXDIS follow
the comparison. -/
theorem fullCycleRestoresLinkState : Obligations.FullCycleRestoresLinkState := by
  rintro s data c running phase armed - - rfl
  obtain ⟨u, compared, run⟩ := exists_cycle_compared (Config.curR s.expectedCursor)
    (Config.curR s.expectedCursor + 1) data running phase armed
  have matched : u.mlPhase = Phase.txrdy.code := by
    simp [compared.phase, pairMatches_iff]
  have iteration : iterRecords data 6 = .ml data :: (List.replicate 4 (.ml 0) ++ [.ml 0, .ml 0]) := rfl
  refine ⟨microOp .rxdis 0 (microOp .txrdy 0 u), ?_, ?_⟩
  · rw [iteration, run, execAll_ml_cons .txrdy 0 compared.running matched,
      execAll_ml_cons .rxdis 0 (by simp [compared.running]) (microOp_mlPhase .txrdy 0), execAll]
  · have disarmed := compared.txIntArmed (by simp)
    simp [nextPhase, compared.running, compared.receiveReady, compared.errorCount, disarmed, Phase.code]

/-- Settles O55: ML.ERRINC alone follows the comparison, and it writes no flag and no line. -/
theorem mismatchIsCountedAndBlocksTheLink : Obligations.MismatchIsCountedAndBlocksTheLink := by
  rintro s data a b c running phase armed rfl miss
  obtain ⟨u, compared, run⟩ := exists_cycle_compared a b data running phase armed
  have mismatched : u.mlPhase = Phase.errinc.code := by
    rw [compared.phase, if_neg]
    simpa [pairMatches_iff] using miss
  have iteration : iterRecords data 5 = .ml data :: (List.replicate 4 (.ml 0) ++ [.ml 0]) := rfl
  refine ⟨microOp .errinc 0 u, ?_, ?_⟩
  · rw [iteration, run, execAll_ml_cons .errinc 0 compared.running mismatched, execAll]
  · simp [nextPhase, compared.running, compared.receiveReady, compared.errorCount,
      compared.transmitReady, compared.rxIntArmed, Phase.code]

/-! ### Hazards -/

/-- Settles O56: ML.ARM arms the line that the event has disarmed, and tests no flag. -/
theorem staleArmSendsASecondFrame : Obligations.StaleArmSendsASecondFrame := by
  intro s d running phase armed
  refine ⟨microOp .arm d (txHandler s), _, ?_, by simp, by simp,
    exec_txev_armed (by simp [running]) (by simp), ?_⟩
  · rw [execAll_txev_cons running armed, execAll_ml_cons .arm d (by simp [running]) (by simp [phase]; rfl),
      execAll]
  · simp [txHandler_eq, microCommands]

/-- A pair that is staged at `BUILD` is compared with the cursor the block then has, and a failure is counted
by the next step. -/
theorem exists_comparison_outcome {a b c : Byte} (d : DataWord) (running : s.halted = false)
    (phase : s.mlPhase = 0) (ready : s.receiveReady = true) (pair : s.rxFrame = ⟨⟨a, b⟩, true⟩)
    (cursor : s.expectedCursor = c) :
    ∃ u : State, execAll (.ml d :: List.replicate (if s.transmitReady then 5 else 4) (.ml d)) s = .next u ∧
      u.rxFrame = ⟨⟨a, b⟩, true⟩ ∧ u.receiveReady = false ∧ u.matchReg.written = true ∧
      (u.matchReg.value = true ↔ a = c ∧ b = c + 1) ∧
      (u.matchReg.value = false →
        ∃ v : State, exec (.ml d) u = .next v ∧ v.errorCount = s.errorCount + 1) := by
  obtain ⟨u, compared, run⟩ := exists_compared d d running phase ready
  have outcome : u.matchReg = ⟨pairMatches c ⟨a, b⟩, true⟩ := by rw [compared.outcome, cursor, pair]
  have next := compared.phase
  rw [cursor, pair] at next
  refine ⟨u, by simpa [execAll] using run [], compared.rxFrame.trans pair, compared.receiveReady,
    congrArg Latch.written outcome, ?_, fun miss => ?_⟩
  · rw [outcome]
    exact pairMatches_iff
  · rw [outcome] at miss
    rw [if_neg (by simpa using miss)] at next
    exact ⟨_, exec_ml_running d compared.running next, by simp [compared.errorCount]⟩

/-- The pair that arrives between ML.RXCLR and ML.CMP is compared at once; the block is then back at `BUILD`
with the pair still staged, `receiveReady` being 1 again (R222 c). -/
theorem exists_build_after_late_pair (first : Bool) (a b : Byte) (d : DataWord) (running : s.halted = false)
    (armed : s.rxIntArmed = true) (phase : s.mlPhase = 5)
    (outcome : pairMatches (Config.curR s.expectedCursor) ⟨a, b⟩ = first) :
    ∃ w : State, w.halted = false ∧ w.mlPhase = 0 ∧ w.receiveReady = true ∧ w.rxFrame = ⟨⟨a, b⟩, true⟩ ∧
      w.expectedCursor = Config.curV (Config.curR s.expectedCursor) first ∧
      w.transmitReady = (first || s.transmitReady) ∧
      (first = false → w.errorCount = s.errorCount + 1) ∧
      ∀ ops : List Instr, execAll (.rxev a b :: .ml d ::
        (List.replicate (if first then 2 else 1) (.ml d) ++ ops)) s = execAll ops w := by
  have received : (rxHandlerWith Config.curR a b s).mlPhase = Phase.cmp.code := phase
  cases first with
  | true =>
    refine ⟨microOp .rxdis d (microOp .txrdy d (microOp .cmp d (rxHandlerWith Config.curR a b s))),
      by simp [running], by simp [nextPhase, Phase.code], by simp, by simp, by simp [outcome], by simp, nofun,
      fun ops => ?_⟩
    simp only [if_true, List.replicate, List.cons_append, List.nil_append]
    rw [execAll_rxev_cons a b running armed, execAll_ml_cons .cmp d (by simp [running]) received,
      execAll_ml_cons .txrdy d (by simp [running]) (by simp [nextPhase, outcome]),
      execAll_ml_cons .rxdis d (by simp [running]) (by simp [nextPhase])]
  | false =>
    refine ⟨microOp .errinc d (microOp .cmp d (rxHandlerWith Config.curR a b s)),
      by simp [running], by simp [nextPhase, Phase.code], by simp, by simp, by simp [outcome], by simp,
      by simp, fun ops => ?_⟩
    simp only [Bool.false_eq_true, if_false, List.replicate, List.cons_append, List.nil_append]
    rw [execAll_rxev_cons a b running armed, execAll_ml_cons .cmp d (by simp [running]) received,
      execAll_ml_cons .errinc d (by simp [running]) (by simp [nextPhase, outcome])]

/-- Settles O57: the second comparison of one pair is that of any pair staged at `BUILD`. -/
theorem receiveEventsOverwriteAndMerge : Obligations.ReceiveEventsOverwriteAndMerge := by
  intro s a b a' b' d running armed
  refine ⟨?_, fun phase => ?_, fun phase => ?_, ?_⟩
  · refine ⟨rxHandlerWith Config.curR a' b' (rxHandlerWith Config.curR a b s), ?_, by simp, by simp⟩
    rw [execAll_rxev_cons a b running armed,
      execAll_rxev_cons a' b' (by simp [running]) (by simp [armed]), execAll]
  · have received : (rxHandlerWith Config.curR a b s).mlPhase = Phase.rxclr.code := phase
    refine ⟨microOp .rxclr d (rxHandlerWith Config.curR a b s), ?_, by simp, by simp, by simp [nextPhase]; rfl⟩
    rw [execAll_rxev_cons a b running armed, execAll_ml_cons .rxclr d (by simp [running]) received, execAll]
  · have received : (rxHandlerWith Config.curR a b s).mlPhase = Phase.cmp.code := phase
    refine ⟨microOp .cmp d (rxHandlerWith Config.curR a b s), ?_, by simp, by simp, ?_⟩
    · rw [execAll_rxev_cons a b running armed, execAll_ml_cons .cmp d (by simp [running]) received, execAll]
    · rw [← pairMatches_iff (p := ⟨a, b⟩)]
      cases outcome : pairMatches (Config.curR s.expectedCursor) ⟨a, b⟩ <;>
        simp [nextPhase, outcome, Phase.code]
  · rintro phase first c c' n rfl outcome rfl length
    have compared : pairMatches (Config.curR s.expectedCursor) ⟨a, b⟩ = first :=
      Bool.eq_iff_iff.2 (pairMatches_iff.trans outcome.symm)
    obtain ⟨w, running', phase', ready, pair, cursor, flag, counted, run⟩ :=
      exists_build_after_late_pair first a b d running armed phase compared
    obtain ⟨u, second, kept, cleared, written, value, missed⟩ :=
      exists_comparison_outcome d running' phase' ready pair cursor
    have split : List.replicate n (Instr.ml d) = List.replicate (if first then 2 else 1) (.ml d) ++
        .ml d :: List.replicate (if w.transmitReady then 5 else 4) (.ml d) := by
      rw [length, flag]
      cases first <;> cases s.transmitReady <;> rfl
    refine ⟨u, by rw [split, run, second], kept, cleared, written, value, fun miss again => ?_⟩
    obtain ⟨v, done, count⟩ := missed again
    refine ⟨v, done, ?_⟩
    rw [count, counted miss, BitVec.add_assoc]
    exact congrArg (s.errorCount + ·) (BitVec.ofNat_add 1 1).symm

/-- Settles O58: the event falls between ML.TXRDY, which sets the flag, and ML.RXDIS, which disarms. -/
theorem surplusReceiveEventStaysStaged : Obligations.SurplusReceiveEventStaysStaged := by
  intro s a b d running armed phase
  refine ⟨microOp .rxdis d (rxHandlerWith Config.curR a b (microOp .txrdy d s)), ?_, ?_⟩
  · rw [execAll_ml_cons .txrdy d running phase,
      execAll_rxev_cons a b (by simp [running]) (by simp [armed]),
      execAll_ml_cons .rxdis d (by simp [running]) (by simp [nextPhase]), execAll]
  · simp [State.isIdle, State.isAwaitingValidation, nextPhase, Phase.code]

/-- Settles O59: neither handler writes what the other reads, and each appends its own group. -/
theorem bothEventOrdersAreAdmitted : Obligations.BothEventOrdersAreAdmitted := by
  intro s a b running txArmed rxArmed
  refine ⟨rxHandlerWith Config.curR a b (txHandler s), txHandler (rxHandlerWith Config.curR a b s),
    ?_, ?_, ?_, ?_⟩
  · rw [execAll_txev_cons running txArmed, execAll_rxev_cons a b (by simp [running]) (by simp), execAll]
  · rw [execAll_rxev_cons a b running rxArmed, execAll_txev_cons (by simp [running]) (by simp [txArmed]),
      execAll]
  · simp only [txHandler_eq, rxHandlerWith_eq]
  · simp [txHandler_eq, rxHandlerWith_eq]

end Sys2Proof.Machine
end

section
/-! PROOF. The stalled link (spec/70_reset_and_hazards.md R226 b, c) and the progress of the main loop
(spec/20_memory.md R67). A stalled link stays so because the flags that would lead the main loop out of its
three idle phases are 0. The main loop comes back to `BUILD` because the number of steps it can still need
never grows, whatever the environment does, and each step of its own makes it smaller. -/

namespace Sys2Proof.Machine

variable {s t : State} {i : Instr}

/-! ### The stalled link -/

theorem Stalled.phase_cases (stalled : Stalled s) {p : Phase} (phase : s.mlPhase = p.code) :
    p = .build ∨ p = .armtest ∨ p = .rxtest := by
  have named {q : Phase} (idle : s.mlPhase = q.code) : p = q := phaseCode_inj (phase.symm.trans idle)
  exact stalled.idles.imp named (Or.imp named named)

/-- In each of the three phases the next one is again one of them, because both flags are 0. -/
theorem Stalled.microOp (stalled : Stalled s) {p : Phase} (phase : s.mlPhase = p.code) (data : DataWord) :
    Stalled (microOp p data s) where
  running := by rw [microOp_halted, stalled.running]
  awaitsMatch := by rcases stalled.phase_cases phase with rfl | rfl | rfl <;> simp [stalled.awaitsMatch]
  nothingStaged := by rcases stalled.phase_cases phase with rfl | rfl | rfl <;> simp [stalled.nothingStaged]
  idles := by
    rw [microOp_mlPhase]
    rcases stalled.phase_cases phase with rfl | rfl | rfl <;>
      simp [nextPhase, stalled.awaitsMatch, stalled.nothingStaged]

/-- The three micro-operations of a stalled link write the Frame being built and the phase alone. -/
theorem Stalled.microOp_eq (stalled : Stalled s) {p : Phase} (phase : s.mlPhase = p.code)
    (data : DataWord) : ∃ (d : Latch DataWord) (f : Latch Frame) (code : Nibble),
      Machine.microOp p data s = { s with dataWord := d, frame := f, mlPhase := code } := by
  rw [Machine.microOp_eq]
  rcases stalled.phase_cases phase with rfl | rfl | rfl <;> exact ⟨_, _, _, rfl⟩

/-- The main loop alone (R226 b): one `ML` after the other. -/
theorem Stalled.execAll_ml (words : List DataWord) (stalled : Stalled s) :
    ∃ t : State, execAll (words.map Instr.ml) s = .next t ∧
      t = { s with dataWord := t.dataWord, frame := t.frame, mlPhase := t.mlPhase } ∧ Stalled t := by
  induction words generalizing s with
  | nil => exact ⟨s, rfl, rfl, stalled⟩
  | cons data words ih =>
    obtain ⟨p, phase⟩ : ∃ p : Phase, s.mlPhase = p.code := by
      rcases stalled.idles with idle | idle | idle <;> exact ⟨_, idle⟩
    have stalled' := stalled.microOp phase data
    obtain ⟨t, run, same, still⟩ := ih stalled'
    obtain ⟨d, f, code, first⟩ := stalled.microOp_eq phase data
    refine ⟨t, ?_, ?_, still⟩
    · rw [List.map_cons, execAll_ml_cons p data stalled.running phase, run]
    · rwa [first] at same

/-- Every operation (R226 c): no transmit event fires on a disarmed line. -/
theorem Stalled.exec (stalled : Stalled s) (disarmed : s.txIntArmed = false)
    (plain : isCommand i = false) (completed : exec i s = .next t) :
    isRxev i = true ∨ i = .halt ∨ i = .reset ∨ (SameLink s t ∧ Stalled t) := by
  cases performs_of_exec completed with
  | pure r => exact .inr (.inr (.inr ⟨rfl, { stalled with }⟩))
  | mainLoop p data _ _ phase =>
    obtain ⟨d, f, code, done⟩ := stalled.microOp_eq phase data
    exact .inr (.inr (.inr ⟨by rw [done]; rfl, stalled.microOp phase data⟩))
  | txev _ armed => rw [disarmed] at armed; cases armed
  | rxev => exact .inl rfl
  | halt => exact .inr (.inl rfl)
  | reset => exact .inr (.inr (.inl rfl))
  | command c => cases c <;> cases plain

/-! ### Progress -/

/-- The most main-loop steps that a phase can still need to come to `BUILD`, whatever the flags become. -/
def maxStepsToBuild : Phase → Nat
  | .build => 0
  | .armtest => 7
  | .arm => 6
  | .rxtest => 5
  | .rxclr => 4
  | .cmp => 3
  | .errinc => 1
  | .txrdy => 2
  | .rxdis => 1

theorem maxStepsToBuild_nextPhase {p : Phase} (later : p ≠ .build) (s : State) :
    maxStepsToBuild (nextPhase p s) < maxStepsToBuild p := by
  cases p with
  | build => exact absurd rfl later
  | armtest | rxtest | cmp => simp only [nextPhase]; split <;> decide
  | _ => simp [nextPhase, maxStepsToBuild]

/-- The same for the code that `mlPhase` holds; a code that names no phase (R80 b) is not at `BUILD`. -/
def stepsBound (s : State) : Nat := ((phaseOf s.mlPhase).map maxStepsToBuild).getD 1

theorem stepsBound_of_phase {p : Phase} (phase : s.mlPhase = p.code) : stepsBound s = maxStepsToBuild p := by
  rw [stepsBound, phase, phaseOf_code]
  rfl

theorem stepsBound_eq_zero (none : stepsBound s = 0) : s.mlPhase = Phase.build.code := by
  have all : ∀ code : Nibble, ((phaseOf code).map maxStepsToBuild).getD 1 = 0 → code = Phase.build.code := by
    decide
  exact all _ none

/-- A main-loop operation outside `BUILD` comes nearer to it. -/
theorem stepsBound_mainLoop (main : isMainLoop i = true) (later : s.mlPhase ≠ Phase.build.code)
    (completed : exec i s = .next t) : stepsBound t < stepsBound s := by
  obtain ⟨-, p, data, phase, -, rfl⟩ := mainLoop_next main completed
  rw [stepsBound_of_phase phase, stepsBound_of_phase (microOp_mlPhase p data)]
  exact maxStepsToBuild_nextPhase (fun build => later (phase.trans (congrArg Phase.code build))) s

/-- No operation leads away from `BUILD` (R189: a handler leaves `mlPhase` as it was). -/
theorem stepsBound_exec (later : s.mlPhase ≠ Phase.build.code) (completed : exec i s = .next t) :
    stepsBound t ≤ stepsBound s := by
  cases performs_of_exec completed with
  | mainLoop p data main => exact (stepsBound_mainLoop main later completed).le
  | reset => exact Nat.zero_le _
  | txev => rw [stepsBound, stepsBound, txHandler_mlPhase]
  | rxev => rw [stepsBound, stepsBound, rxHandlerWith_mlPhase]
  | pure | halt | command => exact le_rfl

section

variable {records : Nat → Record} {run : Nat → State}

theorem IsExecution.stepsBound_succ (execution : IsExecution records run) {n : Nat}
    (later : (run n).mlPhase ≠ Phase.build.code) : stepsBound (run (n + 1)) ≤ stepsBound (run n) := by
  obtain ⟨i, -, completed⟩ := step_present_next (execution n)
  exact stepsBound_exec (s := { run n with result := .none }) later completed

/-- As long as `BUILD` is not met, the bound does not grow. -/
theorem IsExecution.stepsBound_le (execution : IsExecution records run) {n m : Nat}
    (later : ∀ j : Nat, n ≤ j → (run j).mlPhase ≠ Phase.build.code) (from_n : n ≤ m) :
    stepsBound (run m) ≤ stepsBound (run n) := by
  induction m, from_n using Nat.le_induction with
  | base => exact le_rfl
  | succ j from_n ih => exact (execution.stepsBound_succ (later j from_n)).trans ih

theorem IsExecution.stepsBound_succ_lt (execution : IsExecution records run) {n : Nat}
    (main : IsMainLoopRecord (records n)) (later : (run n).mlPhase ≠ Phase.build.code) :
    stepsBound (run (n + 1)) < stepsBound (run n) := by
  obtain ⟨data, ml⟩ := main
  obtain ⟨i, decoded, completed⟩ := step_present_next (execution n)
  obtain rfl := Except.ok.inj (ml.symm.trans decoded)
  exact stepsBound_mainLoop (s := { run n with result := .none }) rfl later completed

/-- By induction on the bound: until `BUILD` is met it does not grow, and the next step of the main loop,
which fairness grants (R67), makes it smaller. -/
theorem IsExecution.exists_build (execution : IsExecution records run) (fair : WeaklyFair records run)
    (running : ∀ n : Nat, (run n).halted = false) (k n : Nat) (bound : stepsBound (run n) ≤ k) :
    ∃ m : Nat, n ≤ m ∧ (run m).mlPhase = Phase.build.code := by
  induction k generalizing n with
  | zero => exact ⟨n, le_rfl, stepsBound_eq_zero (Nat.le_zero.1 bound)⟩
  | succ k ih =>
    by_contra never
    have later (m : Nat) (from_n : n ≤ m) : (run m).mlPhase ≠ Phase.build.code :=
      fun build => never ⟨m, from_n, build⟩
    obtain ⟨m, from_n, main⟩ := fair n fun m _ => running m
    have notGrown := execution.stepsBound_le later from_n
    have nearer := execution.stepsBound_succ_lt main (later m from_n)
    obtain ⟨m', from_m, build⟩ := ih (m + 1) (by omega)
    exact never ⟨m', by omega, build⟩

end

/-- Settles O60: the main loop alone, every operation, and the executions that are fair to the main loop. -/
theorem stalledLinkStaysStalled : Obligations.StalledLinkStaysStalled :=
  ⟨fun words _ => Stalled.execAll_ml words, fun _ _ _ => Stalled.exec,
    fun _ _ execution fair running n => execution.exists_build fair running _ n le_rfl⟩

end Sys2Proof.Machine
end
